-- ==== Sys2Proof/Word.lean ====
section
/-! DEFINITION. The word types of the Tarbis SL-16 model and the index ranges of spec/00_scope.md, Conventions, Numbering.

A numbered thing of the manual is held as an index that starts at 0: station number k is the index k - 1, zone n
the index n - 1, slot n the index n - 1 and group g the index g - 1.  Points and notices are numbered from 0 in the
manual itself.  Bit vectors are used for bytes, CRCs and the scanner's 128 samples only; lengths, counts and
coordinates are `Nat` and `Int`. -/
namespace Sys2Proof

/-- One byte on the line link or in the settings store (R178, R198). -/
abbrev Byte := BitVec 8

/-- A station, 1 to 16 in web order, held as its number less one. -/
abbrev StationIx := Fin 16

/-- An oven zone, 1 to 8 in web order, held as its number less one. -/
abbrev ZoneIx := Fin 8

/-- A job slot, 1 to 4, held as its number less one. -/
abbrev SlotIx := Fin 4

/-- A scanned point, 0 to 127 (R163). -/
abbrev PointNo := Fin 128

/-- A point group, 1 to 20 (R163), held as its number less one. -/
abbrev GroupIx := Fin 20

/-- A notice number, 0 to 19 (spec/10_line_link.md section 10.6). -/
abbrev NoticeNo := Fin 20

end Sys2Proof
end

