-- ==== Sys2Proof/Syntax.lean ====
section
/-! DEFINITION. The commands of the part: one constructor of `Instr` per row of spec/opcode_table.json, with the row's
operands.  A request row carries the tag and the body of its frame, byte for byte, so that every frame the link can
carry is a command; the layouts of the bodies are those of spec/11_message_and_record_layouts.md. -/
namespace Sys2Proof

/-- The sense of web travel, of a screen encoder count or of a jog. -/
inductive Direction where
  | forward | reverse
  deriving DecidableEq, Repr

/-- A frame of the line link without its start byte, length and CRC (R178): the kind, the tag and the body. -/
structure Frame where
  kind : Byte
  tag  : Byte
  body : List Byte
  deriving DecidableEq, Repr

/-- The commands: events on the field wiring, events of the part's time base, link events and requests of the host. -/
inductive Instr where
  /-- POWER_ON (R8). `strap` is the rate strap code read at the start (R178). -/
  | powerOn (strap : Fin 4)
  /-- RESET_INPUT (R187). `strap` is the rate strap code read at the start (R178). -/
  | resetInput (strap : Fin 4)
  /-- SETTINGS_STORE_READ (R8). -/
  | settingsStoreRead
  /-- END_OF_STARTING (R186). -/
  | endOfStarting
  /-- SWEEP (R164). Bit p of `samples` is the sample of point p, 1 when its contact is closed. -/
  | sweep (samples : BitVec 128)
  /-- ENCODER_COUNT (R11). `dir` is the mark of the count. -/
  | encoderCount (dir : Direction)
  /-- SEAM_DETECTION (R16). -/
  | seamDetection
  /-- MARK_DETECTION (R65). `k` is the station of the mark sensor. -/
  | markDetection (k : StationIx)
  /-- SCREEN_ENCODER_COUNT (R61). `k` is the station, `dir` the mark of the count. -/
  | screenEncoderCount (k : StationIx) (dir : Direction)
  /-- INDEX_PULSE (R62). `k` is the station of the screen. -/
  | indexPulse (k : StationIx)
  /-- TRIM_DONE (R77). `k` is the station, `number` the trim number the drive completes. -/
  | trimDone (k : StationIx) (number : Byte)
  /-- TRIM_TIMEOUT (R79). `k` is the station. -/
  | trimTimeout (k : StationIx)
  /-- LOWER_TIMEOUT (R96). `k` is the station. -/
  | lowerTimeout (k : StationIx)
  /-- RAISE_TIMEOUT (R97). `k` is the station. -/
  | raiseTimeout (k : StationIx)
  /-- SPEED_RECOMPUTE (R15). -/
  | speedRecompute
  /-- HALT_DWELL_EXPIRY (R143). -/
  | haltDwellExpiry
  /-- PERSISTENCE_EXPIRY (R140). -/
  | persistenceExpiry
  /-- GOVERNOR_UPDATE (R149). -/
  | governorUpdate
  /-- JOG_TIMER_EXPIRY (R156). -/
  | jogTimerExpiry
  /-- LENGTH_ERROR (R180). -/
  | lengthError
  /-- GAP_TIMEOUT (R180). -/
  | gapTimeout
  /-- FRAME_RECEIVED (R181). -/
  | frameReceived
  /-- NOTICE_FRAME_SEND (R184). -/
  | noticeFrameSend
  /-- UNKNOWN_KIND (R195). A request frame of any kind that is no request kind. -/
  | unknownKind (kind tag : Byte) (body : List Byte)
  /-- IDENTIFY (R192). `tag` and `body` are those of the request frame. -/
  | identify (tag : Byte) (body : List Byte)
  /-- GET_STATUS (R193). `tag` and `body` are those of the request frame. -/
  | getStatus (tag : Byte) (body : List Byte)
  /-- SET_GEOMETRY (R5). `tag` and `body` are those of the request frame. -/
  | setGeometry (tag : Byte) (body : List Byte)
  /-- GET_GEOMETRY (R9). `tag` and `body` are those of the request frame. -/
  | getGeometry (tag : Byte) (body : List Byte)
  /-- GET_GATE_TABLE (R9). Get Geometry with the one-byte body 1 (the selector). -/
  | getGateTable (tag : Byte)
  /-- SAVE_GEOMETRY (R7). `tag` and `body` are those of the request frame. -/
  | saveGeometry (tag : Byte) (body : List Byte)
  /-- SAVE_GEOMETRY_COMPLETE (R7). -/
  | saveGeometryComplete
  /-- LOAD_JOB (R114). `tag` and `body` are those of the request frame. -/
  | loadJob (tag : Byte) (body : List Byte)
  /-- READ_JOB (R116). `tag` and `body` are those of the request frame. -/
  | readJob (tag : Byte) (body : List Byte)
  /-- START_JOB (R117). `tag` and `body` are those of the request frame. -/
  | startJob (tag : Byte) (body : List Byte)
  /-- END_JOB (R118). `tag` and `body` are those of the request frame. -/
  | endJob (tag : Byte) (body : List Byte)
  /-- STAGE_JOB (R119). `tag` and `body` are those of the request frame. -/
  | stageJob (tag : Byte) (body : List Byte)
  /-- CANCEL_STAGE (R125). `tag` and `body` are those of the request frame. -/
  | cancelStage (tag : Byte) (body : List Byte)
  /-- SET_SPEED_TARGET (R152). `tag` and `body` are those of the request frame. -/
  | setSpeedTarget (tag : Byte) (body : List Byte)
  /-- RUN (R151). `tag` and `body` are those of the request frame. -/
  | run (tag : Byte) (body : List Byte)
  /-- HALT (R153). `tag` and `body` are those of the request frame. -/
  | halt (tag : Byte) (body : List Byte)
  /-- JOG (R155). `tag` and `body` are those of the request frame. -/
  | jog (tag : Byte) (body : List Byte)
  /-- CLEAR_TRIP (R160). `tag` and `body` are those of the request frame. -/
  | clearTrip (tag : Byte) (body : List Byte)
  /-- LIFT_STATION (R109). `tag` and `body` are those of the request frame. -/
  | liftStation (tag : Byte) (body : List Byte)
  /-- LOWER_STATION (R110). `tag` and `body` are those of the request frame. -/
  | lowerStation (tag : Byte) (body : List Byte)
  /-- CLEAR_STATION_FAULT (R99). `tag` and `body` are those of the request frame. -/
  | clearStationFault (tag : Byte) (body : List Byte)
  /-- GET_STATION (R111). `tag` and `body` are those of the request frame. -/
  | getStation (tag : Byte) (body : List Byte)
  /-- DECLARE_ROLL_QUEUE (R23). `tag` and `body` are those of the Declare Roll frame; the first body byte is the option. -/
  | declareRollQueue (tag : Byte) (body : List Byte)
  /-- DECLARE_ROLL_HERE (R24). Declare Roll with option byte 1; `fields` are the body bytes after the option (roll id 4, declared length 2). -/
  | declareRollHere (tag : Byte) (fields : List Byte)
  /-- INSERT_MARKER (R26). `tag` and `body` are those of the request frame. -/
  | insertMarker (tag : Byte) (body : List Byte)
  /-- READ_TRACK (R40). `tag` and `body` are those of the request frame. -/
  | readTrack (tag : Byte) (body : List Byte)
  /-- TRACK_RESET (R42). `tag` and `body` are those of the request frame. -/
  | trackReset (tag : Byte) (body : List Byte)
  /-- FETCH_ROLL_REPORT (R56). `tag` and `body` are those of the request frame. -/
  | fetchRollReport (tag : Byte) (body : List Byte)
  /-- ARM_GROUP (R172). `tag` and `body` are those of the request frame. -/
  | armGroup (tag : Byte) (body : List Byte)
  /-- DISARM_GROUP (R173). `tag` and `body` are those of the request frame. -/
  | disarmGroup (tag : Byte) (body : List Byte)
  /-- READ_POINT (R175). `tag` and `body` are those of the request frame. -/
  | readPoint (tag : Byte) (body : List Byte)
  /-- CENSUS (R176). `tag` and `body` are those of the request frame. -/
  | census (tag : Byte) (body : List Byte)
  /-- FETCH_CHANGES (R174). `tag` and `body` are those of the request frame. -/
  | fetchChanges (tag : Byte) (body : List Byte)
  /-- SUBSCRIBE (R190). `tag` and `body` are those of the request frame. -/
  | subscribe (tag : Byte) (body : List Byte)
  /-- ACKNOWLEDGE_NOTICES (R191). `tag` and `body` are those of the request frame. -/
  | acknowledgeNotices (tag : Byte) (body : List Byte)
  /-- RESTART (R187). `tag` and `body` are those of the request frame. -/
  | restart (tag : Byte) (body : List Byte)
  /-- RESTART_TAKES_EFFECT (R187). `strap` is the rate strap code read at the start (R187). -/
  | restartTakesEffect (strap : Fin 4)
  /-- BYTE_RECEIVED (R179). `b` is the byte the receiver is given. -/
  | byteReceived (b : Byte)
  /-- FRAME_SENT (R182). -/
  | frameSent
  /-- POWER_FAIL (R7). -/
  | powerFail
  deriving DecidableEq, Repr

end Sys2Proof
end

