-- ==== Sys2Proof/Decode.lean ====
section
/-! DEFINITION. Which command a request frame spells, by the table of section 11.1 (spec/11_message_and_record_layouts.md),
the frame that a request command stands for, and the host's `decodeTableWord`.

No row of spec/opcode_table.json gives bits, so no word spells a command and `decodeTableWord` answers none. -/
namespace Sys2Proof

/-- The request kinds of section 11.1. -/
inductive RequestKind where
  | identify | getStatus | setGeometry | getGeometry | saveGeometry
  | loadJob | readJob | startJob | endJob | stageJob | cancelStage
  | setSpeedTarget | run | halt | jog | clearTrip
  | liftStation | lowerStation | clearStationFault | getStation
  | declareRoll | insertMarker | readTrack | trackReset | fetchRollReport
  | armGroup | disarmGroup | readPoint | census | fetchChanges
  | subscribe | acknowledgeNotices | restart
  deriving DecidableEq, Repr

/-- The kind byte of a request (section 11.1). -/
def RequestKind.byte : RequestKind → Byte
  | .identify => 0x01 | .getStatus => 0x02
  | .setGeometry => 0x08 | .getGeometry => 0x09 | .saveGeometry => 0x0A
  | .loadJob => 0x10 | .readJob => 0x11 | .startJob => 0x12 | .endJob => 0x13 | .stageJob => 0x14 | .cancelStage => 0x15
  | .setSpeedTarget => 0x18 | .run => 0x19 | .halt => 0x1A | .jog => 0x1B | .clearTrip => 0x1C
  | .liftStation => 0x20 | .lowerStation => 0x21 | .clearStationFault => 0x22 | .getStation => 0x23
  | .declareRoll => 0x28 | .insertMarker => 0x29 | .readTrack => 0x2A | .trackReset => 0x2B | .fetchRollReport => 0x2C
  | .armGroup => 0x30 | .disarmGroup => 0x31 | .readPoint => 0x32 | .census => 0x33 | .fetchChanges => 0x34
  | .subscribe => 0x38 | .acknowledgeNotices => 0x39 | .restart => 0x3F

/-- The body length of a request (section 11.1). -/
def RequestKind.bodyLength : RequestKind → Nat
  | .setGeometry => 410
  | .loadJob => 186
  | .getGeometry | .readJob | .startJob | .stageJob | .liftStation | .lowerStation | .clearStationFault | .getStation
  | .readTrack | .armGroup | .disarmGroup | .readPoint => 1
  | .setSpeedTarget => 2
  | .jog | .subscribe => 3
  | .declareRoll => 7
  | .insertMarker | .acknowledgeNotices => 6
  | .identify | .getStatus | .saveGeometry | .endJob | .cancelStage | .run | .halt | .clearTrip | .trackReset
  | .fetchRollReport | .census | .fetchChanges | .restart => 0

/-- Every request kind, in the order of section 11.1. -/
def requestKinds : List RequestKind :=
  [.identify, .getStatus, .setGeometry, .getGeometry, .saveGeometry, .loadJob, .readJob, .startJob, .endJob, .stageJob,
   .cancelStage, .setSpeedTarget, .run, .halt, .jog, .clearTrip, .liftStation, .lowerStation, .clearStationFault,
   .getStation, .declareRoll, .insertMarker, .readTrack, .trackReset, .fetchRollReport, .armGroup, .disarmGroup,
   .readPoint, .census, .fetchChanges, .subscribe, .acknowledgeNotices, .restart]

/-- The request kind of a kind byte, none for a byte that is no request kind (R182 step 2, R195). -/
def requestOf (kind : Byte) : Option RequestKind := requestKinds.find? (fun r => r.byte == kind)

/-- The command that a request frame spells.  The two rows GET_GATE_TABLE and DECLARE_ROLL_HERE are Get Geometry with
selector 1 and Declare Roll with option 1 (section 11.1, R9, R24). -/
def frameCommand (f : Frame) : Instr :=
  match requestOf f.kind with
  | none => .unknownKind f.kind f.tag f.body
  | some .identify => .identify f.tag f.body
  | some .getStatus => .getStatus f.tag f.body
  | some .setGeometry => .setGeometry f.tag f.body
  | some .getGeometry =>
    match f.body with
    | [b] => if b = 0x01 then .getGateTable f.tag else .getGeometry f.tag f.body
    | _ => .getGeometry f.tag f.body
  | some .saveGeometry => .saveGeometry f.tag f.body
  | some .loadJob => .loadJob f.tag f.body
  | some .readJob => .readJob f.tag f.body
  | some .startJob => .startJob f.tag f.body
  | some .endJob => .endJob f.tag f.body
  | some .stageJob => .stageJob f.tag f.body
  | some .cancelStage => .cancelStage f.tag f.body
  | some .setSpeedTarget => .setSpeedTarget f.tag f.body
  | some .run => .run f.tag f.body
  | some .halt => .halt f.tag f.body
  | some .jog => .jog f.tag f.body
  | some .clearTrip => .clearTrip f.tag f.body
  | some .liftStation => .liftStation f.tag f.body
  | some .lowerStation => .lowerStation f.tag f.body
  | some .clearStationFault => .clearStationFault f.tag f.body
  | some .getStation => .getStation f.tag f.body
  | some .declareRoll =>
    match f.body with
    | b :: fields => if b = 0x01 then .declareRollHere f.tag fields else .declareRollQueue f.tag f.body
    | [] => .declareRollQueue f.tag f.body
  | some .insertMarker => .insertMarker f.tag f.body
  | some .readTrack => .readTrack f.tag f.body
  | some .trackReset => .trackReset f.tag f.body
  | some .fetchRollReport => .fetchRollReport f.tag f.body
  | some .armGroup => .armGroup f.tag f.body
  | some .disarmGroup => .disarmGroup f.tag f.body
  | some .readPoint => .readPoint f.tag f.body
  | some .census => .census f.tag f.body
  | some .fetchChanges => .fetchChanges f.tag f.body
  | some .subscribe => .subscribe f.tag f.body
  | some .acknowledgeNotices => .acknowledgeNotices f.tag f.body
  | some .restart => .restart f.tag f.body

/-- The frame of a request of kind `r`. -/
def requestFrame (r : RequestKind) (tag : Byte) (body : List Byte) : Frame := ⟨r.byte, tag, body⟩

/-- The frame that a request command stands for, none for a command that is no request. -/
def commandFrame : Instr → Option Frame
  | .unknownKind kind tag body => some ⟨kind, tag, body⟩
  | .identify tag body => some (requestFrame .identify tag body)
  | .getStatus tag body => some (requestFrame .getStatus tag body)
  | .setGeometry tag body => some (requestFrame .setGeometry tag body)
  | .getGeometry tag body => some (requestFrame .getGeometry tag body)
  | .getGateTable tag => some (requestFrame .getGeometry tag [0x01])
  | .saveGeometry tag body => some (requestFrame .saveGeometry tag body)
  | .loadJob tag body => some (requestFrame .loadJob tag body)
  | .readJob tag body => some (requestFrame .readJob tag body)
  | .startJob tag body => some (requestFrame .startJob tag body)
  | .endJob tag body => some (requestFrame .endJob tag body)
  | .stageJob tag body => some (requestFrame .stageJob tag body)
  | .cancelStage tag body => some (requestFrame .cancelStage tag body)
  | .setSpeedTarget tag body => some (requestFrame .setSpeedTarget tag body)
  | .run tag body => some (requestFrame .run tag body)
  | .halt tag body => some (requestFrame .halt tag body)
  | .jog tag body => some (requestFrame .jog tag body)
  | .clearTrip tag body => some (requestFrame .clearTrip tag body)
  | .liftStation tag body => some (requestFrame .liftStation tag body)
  | .lowerStation tag body => some (requestFrame .lowerStation tag body)
  | .clearStationFault tag body => some (requestFrame .clearStationFault tag body)
  | .getStation tag body => some (requestFrame .getStation tag body)
  | .declareRollQueue tag body => some (requestFrame .declareRoll tag body)
  | .declareRollHere tag fields => some (requestFrame .declareRoll tag (0x01 :: fields))
  | .insertMarker tag body => some (requestFrame .insertMarker tag body)
  | .readTrack tag body => some (requestFrame .readTrack tag body)
  | .trackReset tag body => some (requestFrame .trackReset tag body)
  | .fetchRollReport tag body => some (requestFrame .fetchRollReport tag body)
  | .armGroup tag body => some (requestFrame .armGroup tag body)
  | .disarmGroup tag body => some (requestFrame .disarmGroup tag body)
  | .readPoint tag body => some (requestFrame .readPoint tag body)
  | .census tag body => some (requestFrame .census tag body)
  | .fetchChanges tag body => some (requestFrame .fetchChanges tag body)
  | .subscribe tag body => some (requestFrame .subscribe tag body)
  | .acknowledgeNotices tag body => some (requestFrame .acknowledgeNotices tag body)
  | .restart tag body => some (requestFrame .restart tag body)
  | .powerOn _ | .resetInput _ | .settingsStoreRead | .endOfStarting | .sweep _ | .encoderCount _ | .seamDetection
  | .markDetection _ | .screenEncoderCount _ _ | .indexPulse _ | .trimDone _ _ | .trimTimeout _ | .lowerTimeout _
  | .raiseTimeout _ | .speedRecompute | .haltDwellExpiry | .persistenceExpiry | .governorUpdate | .jogTimerExpiry
  | .lengthError | .gapTimeout | .frameReceived | .noticeFrameSend | .saveGeometryComplete | .restartTakesEffect _
  | .byteReceived _ | .frameSent | .powerFail => none

/-- The command that a word spells by the bits of spec/opcode_table.json: no row gives bits, so none. -/
def decodeTableWord (_nbits _w : Nat) : Option Instr := none

end Sys2Proof
end

