-- ==== Sys2Proof/Machine/Bytes.lean ====
section
/-! DEFINITION. Byte order, signed fields and the CRC-16 of the link and of the settings store (R178, R198; chapter 11:
integers are big-endian, a signed field is in two's complement). -/
namespace Sys2Proof.Machine

/-- The unsigned number a big-endian field carries. -/
def be (bytes : List Byte) : Nat := bytes.foldl (fun n b => n * 256 + b.toNat) 0

/-- The low `len` bytes of a number, big-endian. -/
def beBytes : Nat → Nat → List Byte
  | 0, _ => []
  | len + 1, n => BitVec.ofNat 8 (n / 256 ^ len) :: beBytes len n

/-- The two's complement of a signed number in `len` bytes, big-endian. -/
def beSigned (len : Nat) (i : Int) : List Byte := beBytes len (i % (256 ^ len : Nat)).toNat

/-- The signed number a two's complement field of `len` bytes carries. -/
def signedOf (len : Nat) (n : Nat) : Int := if 2 * n < 256 ^ len then (n : Int) else (n : Int) - (256 ^ len : Nat)

/-- The bytes of the field of `len` bytes at offset `off`. -/
def fieldBytes (bytes : List Byte) (off len : Nat) : List Byte := (bytes.drop off).take len

/-- The unsigned field of `len` bytes at offset `off`. -/
def field (bytes : List Byte) (off len : Nat) : Nat := be (fieldBytes bytes off len)

/-- The signed field of `len` bytes at offset `off`. -/
def fieldSigned (bytes : List Byte) (off len : Nat) : Int := signedOf len (field bytes off len)

/-- One byte of a number below 256. -/
def byte (n : Nat) : Byte := BitVec.ofNat 8 n

/-- A flag as a byte, 1 for true and 0 for false; for the fields whose codes R197 does not give this is the model's (DESIGN CHOICE, log
entry 34). -/
def flagByte (b : Bool) : Byte := if b then 1 else 0

/-- The number whose bit n is set when `f n` holds, for n below `len`. -/
def maskOf (len : Nat) (f : Nat → Bool) : Nat :=
  (List.range len).foldl (fun acc n => if f n then acc + 2 ^ n else acc) 0

/-- One bit of the CRC shift register, polynomial 0x1021 (R178). -/
def crcShift (crc : BitVec 16) : BitVec 16 :=
  if crc.getLsbD 15 then (crc <<< 1) ^^^ 0x1021 else crc <<< 1

/-- One byte into the CRC, most significant bit first (R178). -/
def crcByte (crc : BitVec 16) (b : Byte) : BitVec 16 :=
  crcShift <| crcShift <| crcShift <| crcShift <| crcShift <| crcShift <| crcShift <| crcShift <|
    crc ^^^ (b.setWidth 16 <<< 8)

/-- The CRC-16 of R178: initial value 0xFFFF, no reflection, no final XOR. -/
def crc16 (bytes : List Byte) : BitVec 16 := bytes.foldl crcByte 0xFFFF

/-- The two CRC bytes, high byte first (R178, R198). -/
def crcBytes (bytes : List Byte) : List Byte := beBytes 2 (crc16 bytes).toNat

end Sys2Proof.Machine
end

