-- ==== Sys2Proof/Config.lean ====
section
/-! DEFINITION. Constants the manual fixes, and the free values: what the manual leaves open is an `opaque` constant
without a body, so that no proof can use a value of it. -/
namespace Sys2Proof.Config

/-- 2^48 - 1, the counter limit of the web counter W (R14). -/
def wLimit : Nat := 281474976710655

/-- The places of the tag track (R20). -/
def trackPlaces : Nat := 128

/-- The places of the roll declaration queue (R23). -/
def declarationPlaces : Nat := 2

/-- The places of the report queue (R55). -/
def reportPlaces : Nat := 8

/-- The items a report keeps (R53). -/
def itemPlaces : Nat := 24

/-- The places of the change queue (R171). -/
def changePlaces : Nat := 32

/-- The frames the receive queue holds (R181). -/
def receivePlaces : Nat := 4

/-- The largest body length of a frame (R178). -/
def largestBody : Nat := 480

/-- The upper end of every saturating 16-bit count. -/
def countLimit : Nat := 65535

/-- The persistence of an overspeed excess in ms (R139). -/
def persistenceMs : Nat := 1000

/-- The largest path position in µm (R4). -/
def positionLimit : Nat := 200000000

/-- FREE VALUE (log entry 4). Where the manual gives no order among agents that act on one event (the readers of a
new W, R12; the span owners at a track reset, R43; the consumers at the end of STARTING, R167; the owners at End Job),
the order is the permutation that this code selects.  The argument is a counter of State, advanced at every use. -/
opaque freeOrder : Nat → Nat

/-- FREE VALUE (log entry 8). The device code of the Tarbis SL-16 in the Identify reply (R192); the manual gives no value. -/
opaque deviceCode : BitVec 16

/-- FREE VALUE (log entry 8). The hardware revision in the Identify reply (R192). -/
opaque hardwareRevision : BitVec 8

/-- FREE VALUE (log entry 8). The firmware revision in the Identify reply (R192). -/
opaque firmwareRevision : BitVec 16

end Sys2Proof.Config
end

