-- ==== Sys2Proof/Machine/State.lean ====
section
/-! DEFINITION. The state of the Tarbis SL-16: one structure per block of spec/00_scope.md, "Blocks and how they work
together", with every field the numbered rules give the block, and the values after power-on (`State.reset`).

The geometry state of R6 is VALID exactly when the working geometry is present.  Numbers the manual bounds are `Nat`
or `Int`; a timer that may be stopped is an `Option Nat`; a reference that may be absent is an `Option`. -/
namespace Sys2Proof.Machine

/-! ### Geometry and settings store (spec/01) -/

/-- A station entry of the geometry record, as written (items 32 + 8(k-1) to + 7). -/
structure GeomStation where
  /-- Mark sensor position s_k, µm. -/
  markPos : Nat
  /-- Nip position n_k, µm. -/
  nipPos : Nat
  /-- Lift lead, mm. -/
  liftLeadMm : Nat
  /-- Trail guard, mm. -/
  trailGuardMm : Nat
  /-- Screen encoder counts per revolution C_k. -/
  countsPerRev : Nat
  /-- Lower timeout, ms. -/
  lowerTimeout : Nat
  /-- Raise timeout, ms. -/
  raiseTimeout : Nat
  /-- Trim timeout, ms. -/
  trimTimeout : Nat
  deriving DecidableEq, Repr

/-- The geometry record (section 1.1), as written: the millimetre fields stay in mm (R1). -/
structure GeomRecord where
  /-- Item 1, installed station count N. -/
  installed : Nat
  /-- Item 2, encoder scale, µm per count. -/
  encoderScale : Nat
  /-- Item 3, seam hold-off, mm. -/
  holdOffMm : Nat
  /-- Item 4, reverse allowance, mm. -/
  allowanceMm : Nat
  /-- Item 5, O_in, µm. -/
  ovenIn : Nat
  /-- Item 6, zone count Z. -/
  zoneCount : Nat
  /-- Items 7 to 14, z_1 to z_8, µm. -/
  zoneEnds : Vector Nat 8
  /-- Item 15, exit position X, µm. -/
  exitPos : Nat
  /-- Item 16, debounce count of the station groups. -/
  debounceStation : Nat
  /-- Item 17, debounce count of the line groups. -/
  debounceLine : Nat
  /-- Item 18. -/
  acceleration : Nat
  /-- Item 19, normal deceleration. -/
  deceleration : Nat
  /-- Item 20, trip deceleration. -/
  tripDeceleration : Nat
  /-- Item 21. -/
  jogSpeed : Nat
  /-- Items 32 to 159. -/
  stations : Vector GeomStation 16
  deriving DecidableEq, Repr

/-- The kind of a gate (section 1.4); a station gate names its station. -/
inductive GateKind where
  | lift (k : StationIx) | nip (k : StationIx) | clear (k : StationIx)
  | ovenIn | ovenOut | exit
  deriving DecidableEq, Repr

/-- A gate of the gate table: its kind and its path position in µm (R10). -/
structure Gate where
  kind : GateKind
  pos  : Nat
  deriving DecidableEq, Repr

/-- What the settings store holds (R7, R198).  `torn` is the copy that an interrupted write leaves: partly old and
partly new, with a CRC that does not match (log entry 7). -/
inductive StoreCopy where
  /-- The bytes of the store: the 410-byte record and the two CRC bytes; an erased store is 412 bytes 0xFF. -/
  | holds (bytes : List Byte)
  | torn
  deriving DecidableEq, Repr

/-- The geometry and settings store. -/
structure GeometryStore where
  /-- The working geometry; the geometry state is VALID when it is present and NONE when it is absent (R6). -/
  working : Option GeomRecord
  /-- The store-match flag (R5, R7, R8). -/
  storeMatch : Bool
  /-- The gate table (R10); empty while the geometry state is NONE. -/
  gates : List Gate
  /-- The stored copy, which keeps its contents without power (R7). -/
  stored : StoreCopy
  /-- The record a Save Geometry is writing, while its write is in progress (R7). -/
  writing : Option GeomRecord
  /-- Whether the settings store has been read in the present start (R8, R186). -/
  storeRead : Bool
  deriving DecidableEq, Repr

/-! ### Web measure (spec/01, sections 1.5 to 1.9) -/

/-- Web measure (R11 to R17). -/
structure WebMeasure where
  /-- The web counter W, µm. -/
  w : Nat
  /-- Wmax, µm. -/
  wmax : Nat
  /-- The reverse deficit, µm. -/
  deficit : Nat
  direction : Direction
  /-- The reverse-limit flag (R13). -/
  reverseLimit : Bool
  /-- The web-limit flag (R14). -/
  webLimit : Bool
  /-- L, the W of the last taken seam (R16). -/
  lastSeam : Option Nat
  /-- The ten slices of the speed window, the running one first (R15). -/
  slices : Vector Int 10
  measuredSpeed : Nat
  seamsTaken : Nat
  seamsIgnored : Nat
  deriving DecidableEq, Repr

/-! ### The tag track (spec/02) -/

/-- The roll record of a ROLL_HEAD (R18). -/
structure RollRecord where
  rollId : Nat
  declared : Nat
  jobId : Nat
  deriving DecidableEq, Repr

/-- The cause of an UNDERCURE span (R18). -/
inductive UndercureCause where
  | zone (n : ZoneIx) | speed
  deriving DecidableEq, Repr

/-- The kind of a tag with the fields the kind has (R18). -/
inductive TagKind where
  /-- `binding` is the staged slot of a bound seam. -/
  | seam (binding : Option SlotIx)
  | rollHead (roll : RollRecord)
  | marker (label : Nat)
  | printGap (station : StationIx) (planned : Bool)
  | misregister (station : StationIx)
  | undercure (cause : UndercureCause)
  | overcure
  deriving DecidableEq, Repr

/-- A tag of the track (R18). -/
structure Tag where
  id : Nat
  kind : TagKind
  uStart : Int
  /-- u_end, absent while a span is open and absent for a point tag. -/
  uEnd : Option Int
  /-- The table index of the first gate whose crossing the tag has not yet taken. -/
  nextGate : Nat
  deriving DecidableEq, Repr

/-- A roll declaration waiting for its seam (R23). -/
structure Declaration where
  rollId : Nat
  declared : Nat
  deriving DecidableEq, Repr

/-- The tag track (R18 to R45). -/
structure TagTrack where
  /-- The tags, in non-decreasing order of u_start (R20). -/
  tags : List Tag
  /-- The roll declaration queue, head first (R23). -/
  declarations : List Declaration
  nextId : Nat
  evictions : Nat
  drops : Nat
  untracked : Nat
  deriving DecidableEq, Repr

/-! ### Exit and roll reports (spec/03) -/

/-- The kind of a report item with its where field or label (section 3.1). -/
inductive ItemKind where
  | marker (label : Nat)
  | printGap (station : StationIx)
  | misregister (station : StationIx)
  | undercure (cause : UndercureCause)
  | overcure
  deriving DecidableEq, Repr

/-- An item of a roll report (section 3.1). -/
structure Item where
  kind : ItemKind
  /-- Start offset, mm, signed. -/
  offset : Int
  /-- Length, mm. -/
  length : Nat
  deriving DecidableEq, Repr

/-- The open report (R46). -/
structure OpenReport where
  roll : RollRecord
  uHead : Int
  items : List Item
  overflow : Nat
  deriving DecidableEq, Repr

/-- What closed a report (R46, R47). -/
inductive ClosedBy where
  | seam | nextHead
  deriving DecidableEq, Repr

/-- A closed report (section 3.1). -/
structure Report where
  number : Nat
  roll : RollRecord
  uHead : Int
  /-- Measured length, mm (R48). -/
  measured : Nat
  closedBy : ClosedBy
  items : List Item
  overflow : Nat
  deriving DecidableEq, Repr

/-- Exit and roll reports (R46 to R58). -/
structure ReportBlock where
  current : Option OpenReport
  /-- The report queue, oldest first (R55). -/
  queue : List Report
  unassigned : Nat
  lost : Nat
  nextNumber : Nat
  deriving DecidableEq, Repr

/-! ### Register control (spec/04) -/

/-- An owner's reference to its open span (R28). -/
inductive SpanRef where
  | none | id (n : Nat) | lost
  deriving DecidableEq, Repr

/-- The state of a register channel (R59). -/
inductive ChannelState where
  | unused | reference | hunt | confirm | locked
  deriving DecidableEq, Repr

/-- The outcome of a measurement (R75). -/
inductive MeasureOutcome where
  | deadBand | noStep | issued | held
  deriving DecidableEq, Repr

/-- The last measurement record (R75). -/
structure Measurement where
  /-- W_m, the W at the detection. -/
  wm : Nat
  /-- c_m, the phase count at the detection. -/
  cm : Nat
  /-- φ_m, the captured phase, µm. -/
  phiM : Nat
  /-- φ_p, the predicted phase, µm. -/
  phiP : Nat
  /-- e, the register error, µm. -/
  error : Int
  /-- T, the trim, µm. -/
  trim : Int
  outcome : MeasureOutcome
  deriving DecidableEq, Repr

/-- The trim in flight (R76): also the trim request that the station's trim handshake carries. -/
structure TrimFlight where
  number : Nat
  trim : Int
  /-- The W at issue. -/
  wIssue : Nat
  deriving DecidableEq, Repr

/-- A register channel (R59). -/
structure Channel where
  state : ChannelState
  /-- The revolution count r. -/
  revolution : Int
  /-- The phase referenced flag. -/
  referenced : Bool
  /-- W_exp. -/
  wExp : Option Int
  /-- W_last. -/
  wLast : Option Int
  misses : Nat
  /-- The out-of-tolerance flag. -/
  outOfTol : Bool
  lastMeas : Option Measurement
  flight : Option TrimFlight
  /-- The trim timer: the time left in ms while it runs (R76). -/
  trimTimer : Option Nat
  nextTrim : Nat
  /-- The channel's open MISREGISTER span. -/
  span : SpanRef
  strays : Nat
  overruns : Nat
  phaseSlips : Nat
  lockLosses : Nat
  trims : Nat
  trimTimeouts : Nat
  deriving DecidableEq, Repr

/-! ### Station control (spec/05) -/

/-- The state of a station (R89). -/
inductive StationState where
  | up | lowering | down | raising | stuck
  deriving DecidableEq, Repr

/-- The mode of a station (R90). -/
inductive Mode where
  | off | print | idle
  deriving DecidableEq, Repr

/-- The lift-reason set of a station (R91), one flag per reason. -/
structure LiftSet where
  seam : Bool
  operator : Bool
  fault : Bool
  drive : Bool
  guard : Bool
  paste : Bool
  jobIdle : Bool
  deriving DecidableEq, Repr

/-- Why a station last entered STUCK (R89). -/
inductive StuckCause where
  | lowerTimeout | raiseTimeout | bothEnds | downLost | seamStrike
  deriving DecidableEq, Repr

/-- A station unit (R89). -/
structure Station where
  state : StationState
  /-- The drive to the lifting actuator: true asks for the screen on the fabric. -/
  lowerOutput : Bool
  mode : Mode
  /-- The job slot in force (R90). -/
  slot : Option SlotIx
  reasons : LiftSet
  /-- The seam hold count (R100). -/
  hold : Nat
  hasPrinted : Bool
  /-- The station's open PRINT_GAP span. -/
  gap : SpanRef
  gapPlanned : Bool
  /-- The lower timer: the time left in ms while it runs. -/
  lowerTimer : Option Nat
  /-- The raise timer: the time left in ms while it runs. -/
  raiseTimer : Option Nat
  stuckCause : Option StuckCause
  stuckCount : Nat
  strikeCount : Nat
  deriving DecidableEq, Repr

/-! ### Jobs and changeover (spec/06) -/

/-- A station entry of a job record as stored (section 6.2). -/
structure JobEntry where
  mode : Mode
  /-- Register offset o_k, µm, held in (-R/2, R/2]. -/
  offset : Int
  /-- Stretch trim t_k, parts per 100,000. -/
  stretch : Int
  /-- Tolerance q_k, µm. -/
  tolerance : Nat
  keep : Bool
  deriving DecidableEq, Repr

/-- A job record as stored (section 6.2). -/
structure Job where
  id : Nat
  /-- The repeat R, µm. -/
  rpt : Nat
  /-- The reference station, 1 to 16. -/
  reference : StationIx
  gain : Nat
  deadBand : Nat
  trimLimit : Nat
  window : Nat
  missLimit : Nat
  huntSpeed : Nat
  maxSpeed : Nat
  /-- Cure dwell D, 0.1 s. -/
  dwell : Nat
  /-- Maximum halt dwell H, 0.1 s. -/
  haltDwell : Nat
  entries : Vector JobEntry 16
  deriving DecidableEq, Repr

/-- A job slot (R113): its state, with the job record it holds. -/
inductive Slot where
  | empty | loaded (j : Job) | active (j : Job) | staged (j : Job)
  deriving DecidableEq, Repr

/-- The state of the changeover record (section 6.5). -/
inductive ChangeoverState where
  | none | pending | bound | settling
  deriving DecidableEq, Repr

/-- The copy of the old job's values (section 6.5). -/
structure OldValues where
  jobId : Nat
  maxSpeed : Nat
  huntSpeed : Nat
  dwell : Nat
  haltDwell : Nat
  deriving DecidableEq, Repr

/-- The tag id and u of the bound seam (section 6.5). -/
structure BoundSeam where
  id : Nat
  u : Int
  deriving DecidableEq, Repr

/-- The cure blend (section 6.5). -/
inductive CureBlend where
  | old | both
  deriving DecidableEq, Repr

/-- The changeover record (section 6.5). -/
structure Changeover where
  state : ChangeoverState
  oldSlot : Option SlotIx
  stagedSlot : Option SlotIx
  old : Option OldValues
  boundSeam : Option BoundSeam
  /-- The switched set, one flag per station. -/
  switched : Vector Bool 16
  blend : CureBlend
  deriving DecidableEq, Repr

/-! ### Oven supervision (spec/07) -/

/-- The overspeed watch (R132). -/
inductive Watch where
  | clear | timing | opened
  deriving DecidableEq, Repr

/-- Oven supervision (R132). -/
structure Oven where
  operating : Bool
  /-- The band state of each zone, true for IN. -/
  bandIn : Vector Bool 8
  zoneSpans : Vector SpanRef 8
  /-- The dwell in force, 0.1 s. -/
  dwell : Option Nat
  /-- v_cure. -/
  cureLimit : Option Nat
  /-- The overspeed threshold. -/
  threshold : Option Nat
  watch : Watch
  /-- The excess start W_0. -/
  excessStart : Option Int
  /-- The persistence timer: the time left in ms while it runs. -/
  persistence : Option Nat
  speedSpan : SpanRef
  /-- The halt timer: the time elapsed in ms while it runs. -/
  haltTimer : Option Nat
  /-- The halt spent mark. -/
  haltMark : Option Int
  deriving DecidableEq, Repr

/-! ### Speed governor (spec/08) -/

/-- The state of the governor (R147). -/
inductive GovState where
  | halt | run | halting | jog | tripping | tripped
  deriving DecidableEq, Repr

/-- The limiting term (R147). -/
inductive LimitTerm where
  | target | maxSpeed | cure | hunt | jog | stop
  deriving DecidableEq, Repr

/-- A trip cause (R157). -/
inductive TripCause where
  | estop | mainDrive | raiseFail | seamStrike | seamUntracked | guard | reverseLimit | webLimit
  deriving DecidableEq, Repr

/-- The trip cause set (R147), one flag per cause. -/
structure TripSet where
  estop : Bool
  mainDrive : Bool
  raiseFail : Bool
  seamStrike : Bool
  seamUntracked : Bool
  guard : Bool
  reverseLimit : Bool
  webLimit : Bool
  deriving DecidableEq, Repr

/-- The terms of the last composed limit as they then stood (R161). -/
structure LimitTerms where
  maxSpeed : Option Nat
  cure : Option Nat
  huntSpeed : Option Nat
  huntHeld : Bool
  deriving DecidableEq, Repr

/-- The speed governor (R147).  The demand and the direction are also the pair presented to the main drive (R148). -/
structure Governor where
  state : GovState
  target : Nat
  limit : Nat
  term : LimitTerm
  demand : Nat
  direction : Direction
  causes : TripSet
  /-- The jog timer: the time left in ms while it runs. -/
  jogTimer : Option Nat
  jogDirection : Option Direction
  reversalPending : Bool
  tripCount : Nat
  terms : LimitTerms
  deriving DecidableEq, Repr

/-! ### Point scanner (spec/09) -/

/-- A point (R163). -/
structure Point where
  raw : Bool
  debounced : Bool
  candidate : Option Bool
  /-- The stable count. -/
  stable : Nat
  stored : Bool
  unreported : Bool
  deriving DecidableEq, Repr

/-- A change record (R171). -/
structure ChangeRecord where
  point : PointNo
  newState : Bool
  w : Nat
  stamp : Nat
  late : Bool
  deriving DecidableEq, Repr

/-- The point scanner (R163 to R177). -/
structure Scanner where
  points : Vector Point 128
  armed : Vector Bool 20
  /-- The change queue, oldest first (R171). -/
  queue : List ChangeRecord
  /-- The millisecond clock. -/
  clock : Nat
  /-- Whether the first full sweep of the present start has completed (R167). -/
  swept : Bool
  /-- W at the completion of the last sweep (R176). -/
  sweepW : Nat
  deriving DecidableEq, Repr

/-! ### Line link (spec/10) -/

/-- The link state (R186). -/
inductive LinkState where
  | starting | ready
  deriving DecidableEq, Repr

/-- The start cause (R186). -/
inductive StartCause where
  | powerOn | resetInput | restart
  deriving DecidableEq, Repr

/-- A frame in progress at the receiver (R179): the bytes gathered after the start byte, and the gap timer as the
number of millisecond ticks since the last byte. -/
structure Gathering where
  bytes : List Byte
  gap : Nat
  deriving DecidableEq, Repr

/-- The case of a discarded frame (R180). -/
inductive LinkFault where
  | length | gap | crc
  deriving DecidableEq, Repr

/-- The detail of a notice; its constructor is its kind (section 10.6). -/
inductive NoticeDetail where
  | restarted (cause : StartCause) (geometryValid : Bool)
  | lockLost (station : StationIx) (w : Nat)
  | phaseSlip (station : StationIx) (r : Int)
  | trimTimeout (station : StationIx) (number : Nat) (trim : Int)
  | stationStuck (station : StationIx) (cause : StuckCause)
  | seamStrike (station : StationIx) (u : Int)
  | trip (causes : TripSet)
  | trackFull (kind : TagKind) (uStart : Int)
  | seamUntracked (u : Int) (rollId : Nat)
  | reportReady (number : Nat) (rollId : Nat)
  | reportLost (rollId : Nat) (number : Nat)
  | changes (point : PointNo) (newState : Bool)
  | queueOverflow (point : PointNo)
  | changeoverBound (slot : SlotIx) (jobId : Nat) (u : Int)
  | changeoverDone (slot : SlotIx) (jobId : Nat) (w : Nat)
  | undercureOpen (cause : UndercureCause)
  | overcure (uStart : Int) (id : Nat)
  | pasteLow (station : StationIx)
  | linkError (fault : LinkFault)
  | linkOverrun (kind tag : Byte)
  deriving DecidableEq, Repr

/-- One kind of the notice pending set (R188). -/
structure Notice where
  pending : Bool
  detail : Option NoticeDetail
  count : Nat
  sent : Bool
  deriving DecidableEq, Repr

/-- The frame the transmitter is sending (R184). -/
inductive Sending where
  | notice (n : NoticeNo) (f : Frame)
  | reply (f : Frame)
  deriving DecidableEq, Repr

/-- Where an accepted Restart stands (R187): none; its reply not yet sent whole; its reply sent. -/
inductive RestartPhase where
  | none | answering | due
  deriving DecidableEq, Repr

/-- The line link (R178 to R194). -/
structure Link where
  state : LinkState
  startCause : StartCause
  /-- The rate strap code read at the last start, which gives the rate in force (R178). -/
  strap : Fin 4
  /-- The receiver: HUNT when absent, FRAME when a frame is being gathered (R179). -/
  receiver : Option Gathering
  /-- The receive queue; its head is the request being answered (R181). -/
  queue : List Frame
  /-- The reply formed and waiting for the transmitter (R184). -/
  waiting : Option Frame
  /-- The frame on the line. -/
  sending : Option Sending
  restart : RestartPhase
  serviceAccess : Bool
  /-- The subscription set, one flag per notice kind (R190). -/
  subscribed : Vector Bool 20
  /-- The notice pending set (R188). -/
  notices : Vector Notice 20
  lengthErrors : Nat
  gapErrors : Nat
  crcErrors : Nat
  overruns : Nat
  requestsTaken : Nat
  noticesSent : Nat
  deriving DecidableEq, Repr

/-! ### The part -/

/-- The state of the part, with the queue of commands that wait for it. -/
structure State where
  /-- The commands that wait, first in, first out. -/
  pending : List Instr
  /-- Whether the part has power (POWER_ON, POWER_FAIL). -/
  powered : Bool
  geom : GeometryStore
  web : WebMeasure
  track : TagTrack
  reports : ReportBlock
  channels : Vector Channel 16
  stations : Vector Station 16
  slots : Vector Slot 4
  changeover : Changeover
  oven : Oven
  gov : Governor
  scan : Scanner
  link : Link
  /-- The MODEL's own counter of free orders used (log entry 4); no rule of the manual names it. -/
  freeIx : Nat
  deriving DecidableEq, Repr

/-- The reasons a step can stop with a fault.  There is none: no rule of the manual describes a command that stops
the part, so the type has no constructor and no step faults. -/
inductive Fault where
  deriving DecidableEq

/-- The reasons a command can be refused by the model. -/
inductive Refusal where
  /-- Raised by an arm of `exec` whose command has no meaning in the model yet; safe.  No arm raises it. -/
  | notModelled (mnemonic : String)
  deriving DecidableEq, Repr

/-! ### Values after power-on, the reset input and a Restart -/

/-- R17, first column. -/
def WebMeasure.start : WebMeasure where
  w := 0
  wmax := 0
  deficit := 0
  direction := .forward
  reverseLimit := false
  webLimit := false
  lastSeam := none
  slices := Vector.replicate 10 0
  measuredSpeed := 0
  seamsTaken := 0
  seamsIgnored := 0

/-- R45, first column. -/
def TagTrack.start : TagTrack where
  tags := []
  declarations := []
  nextId := 1
  evictions := 0
  drops := 0
  untracked := 0

/-- R58, first column. -/
def ReportBlock.start : ReportBlock where
  current := none
  queue := []
  unassigned := 0
  lost := 0
  nextNumber := 1

/-- R87, first column. -/
def Channel.start : Channel where
  state := .unused
  revolution := 0
  referenced := false
  wExp := none
  wLast := none
  misses := 0
  outOfTol := false
  lastMeas := none
  flight := none
  trimTimer := none
  nextTrim := 1
  span := .none
  strays := 0
  overruns := 0
  phaseSlips := 0
  lockLosses := 0
  trims := 0
  trimTimeouts := 0

/-- The set that holds JOB_IDLE alone. -/
def LiftSet.onlyJobIdle : LiftSet where
  seam := false
  operator := false
  fault := false
  drive := false
  guard := false
  paste := false
  jobIdle := true

/-- R112, first column.  DESIGN CHOICE (log entry 6): the gap planned field is false, for which R112 states no value. -/
def Station.start : Station where
  state := .up
  lowerOutput := false
  mode := .off
  slot := none
  reasons := LiftSet.onlyJobIdle
  hold := 0
  hasPrinted := false
  gap := .none
  gapPlanned := false
  lowerTimer := none
  raiseTimer := none
  stuckCause := none
  stuckCount := 0
  strikeCount := 0

/-- The changeover record in state NONE, its other fields cleared (R131, R123). -/
def Changeover.cleared : Changeover where
  state := .none
  oldSlot := none
  stagedSlot := none
  old := none
  boundSeam := none
  switched := Vector.replicate 16 false
  blend := .old

/-- R146, first column.  DESIGN CHOICE (log entry 6): until the end of STARTING the band states are OUT. -/
def Oven.start : Oven where
  operating := false
  bandIn := Vector.replicate 8 false
  zoneSpans := Vector.replicate 8 .none
  dwell := none
  cureLimit := none
  threshold := none
  watch := .clear
  excessStart := none
  persistence := none
  speedSpan := .none
  haltTimer := none
  haltMark := none

/-- The empty trip cause set. -/
def TripSet.empty : TripSet where
  estop := false
  mainDrive := false
  raiseFail := false
  seamStrike := false
  seamUntracked := false
  guard := false
  reverseLimit := false
  webLimit := false

/-- R162, first column.  DESIGN CHOICE (log entry 6): the terms of the last composed limit are absent. -/
def Governor.start : Governor where
  state := .halt
  target := 0
  limit := 0
  term := .stop
  demand := 0
  direction := .forward
  causes := TripSet.empty
  jogTimer := none
  jogDirection := none
  reversalPending := false
  tripCount := 0
  terms := ⟨none, none, none, false⟩

/-- A point before the first sweep.  DESIGN CHOICE (log entry 6): R177 takes the raw, debounced and stored states
from the first sweep; until then the model holds false. -/
def Point.start : Point where
  raw := false
  debounced := false
  candidate := none
  stable := 0
  stored := false
  unreported := false

/-- R177, first column.  DESIGN CHOICE (log entry 6): W at the last sweep is 0 before the first sweep. -/
def Scanner.start : Scanner where
  points := Vector.replicate 128 Point.start
  armed := Vector.replicate 20 false
  queue := []
  clock := 0
  swept := false
  sweepW := 0

/-- A notice kind that is clear (R194). -/
def Notice.clear : Notice where
  pending := false
  detail := none
  count := 0
  sent := false

/-- R194, first column, with the start cause and the strap code of the present start. -/
def Link.start (cause : StartCause) (strap : Fin 4) : Link where
  state := .starting
  startCause := cause
  strap := strap
  receiver := none
  queue := []
  waiting := none
  sending := none
  restart := .none
  serviceAccess := false
  subscribed := Vector.replicate 20 false
  notices := Vector.replicate 20 Notice.clear
  lengthErrors := 0
  gapErrors := 0
  crcErrors := 0
  overruns := 0
  requestsTaken := 0
  noticesSent := 0

/-- The geometry block before the settings store is read: geometry state NONE, as R6 gives while no geometry has been
taken (DEDUCED, log entry 6), over the stored copy given. -/
def GeometryStore.start (stored : StoreCopy) : GeometryStore where
  working := none
  storeMatch := false
  gates := []
  stored := stored
  writing := none
  storeRead := false

/-- An erased settings store (R198): all bytes 0xFF. -/
def StoreCopy.erased : StoreCopy := .holds (List.replicate 412 0xFF)

/-- The part at the start of STARTING, with the given start cause, strap code, stored copy, waiting commands and free
counter. -/
def State.start (cause : StartCause) (strap : Fin 4) (stored : StoreCopy) (pending : List Instr) (freeIx : Nat) :
    State where
  pending := pending
  powered := true
  geom := GeometryStore.start stored
  web := WebMeasure.start
  track := TagTrack.start
  reports := ReportBlock.start
  channels := Vector.replicate 16 Channel.start
  stations := Vector.replicate 16 Station.start
  slots := Vector.replicate 4 Slot.empty
  changeover := Changeover.cleared
  oven := Oven.start
  gov := Governor.start
  scan := Scanner.start
  link := Link.start cause strap
  freeIx := freeIx

/-- The part right after power-on.  DESIGN CHOICE (log entry 6): the strap shows code 0, the settings store is
erased. -/
def State.reset : State := State.start .powerOn 0 StoreCopy.erased [] 0

/-! ### Named updates of one block -/

def State.putPending (s : State) (x : List Instr) : State := { s with pending := x }
def State.putPowered (s : State) (x : Bool) : State := { s with powered := x }
def State.putGeom (s : State) (x : GeometryStore) : State := { s with geom := x }
def State.putWeb (s : State) (x : WebMeasure) : State := { s with web := x }
def State.putTrack (s : State) (x : TagTrack) : State := { s with track := x }
def State.putReports (s : State) (x : ReportBlock) : State := { s with reports := x }
def State.putChannels (s : State) (x : Vector Channel 16) : State := { s with channels := x }
def State.putStations (s : State) (x : Vector Station 16) : State := { s with stations := x }
def State.putSlots (s : State) (x : Vector Slot 4) : State := { s with slots := x }
def State.putChangeover (s : State) (x : Changeover) : State := { s with changeover := x }
def State.putOven (s : State) (x : Oven) : State := { s with oven := x }
def State.putGov (s : State) (x : Governor) : State := { s with gov := x }
def State.putScan (s : State) (x : Scanner) : State := { s with scan := x }
def State.putLink (s : State) (x : Link) : State := { s with link := x }
def State.putFreeIx (s : State) (x : Nat) : State := { s with freeIx := x }

end Sys2Proof.Machine
end

