-- ==== Sys2Proof/Machine/Ops.lean ====
section
/-! DEFINITION. The named operations over the state that every block uses: updates of one indexed record, saturating
counts, what the working geometry says, where a point of fabric stands, the free orders, and the outcome of a command. -/
namespace Sys2Proof.Machine

/-! ### Indexed records -/

def State.station (s : State) (k : StationIx) : Station := s.stations[k]
def State.channel (s : State) (k : StationIx) : Channel := s.channels[k]
def State.slot (s : State) (i : SlotIx) : Slot := s.slots[i]
def State.point (s : State) (p : PointNo) : Point := s.scan.points[p]

def State.putStation (s : State) (k : StationIx) (x : Station) : State := s.putStations (s.stations.set k.val x k.isLt)
def State.putChannel (s : State) (k : StationIx) (x : Channel) : State := s.putChannels (s.channels.set k.val x k.isLt)
def State.putSlot (s : State) (i : SlotIx) (x : Slot) : State := s.putSlots (s.slots.set i.val x i.isLt)

/-- Every station, in web order. -/
def allStations : List StationIx := List.finRange 16

/-- Every oven zone, in web order. -/
def allZones : List ZoneIx := List.finRange 8

/-- Every job slot. -/
def allSlots : List SlotIx := List.finRange 4

/-- Every point, in point order. -/
def allPoints : List PointNo := List.finRange 128

/-! ### Saturating counts -/

/-- One more, saturating at 65,535. -/
def satInc (n : Nat) : Nat := if n < Config.countLimit then n + 1 else n

/-! ### The working geometry -/

/-- Whether the geometry state is VALID (R6). -/
def State.geometryValid (s : State) : Bool := s.geom.working.isSome

/-- A station is installed when the geometry state is VALID and its number is at most N (R89). -/
def State.installed (s : State) (k : StationIx) : Bool :=
  match s.geom.working with
  | some g => decide (k.val < g.installed)
  | none => false

/-- The installed stations in web order. -/
def State.installedStations (s : State) : List StationIx := allStations.filter s.installed

/-- The value of a field of the working geometry, 0 while the geometry state is NONE. -/
def State.geo (s : State) (f : GeomRecord → Nat) : Nat :=
  match s.geom.working with
  | some g => f g
  | none => 0

/-- n_k, the nip position of station k. -/
def State.nip (s : State) (k : StationIx) : Nat := s.geo (fun g => g.stations[k].nipPos)

/-- s_k, the mark sensor position of station k. -/
def State.markPos (s : State) (k : StationIx) : Nat := s.geo (fun g => g.stations[k].markPos)

/-- C_k, the screen encoder counts per revolution of station k. -/
def State.counts (s : State) (k : StationIx) : Nat := s.geo (fun g => g.stations[k].countsPerRev)

/-- z_n, the end of zone n. -/
def GeomRecord.zoneEnd (g : GeomRecord) (n : ZoneIx) : Nat := g.zoneEnds[n]

/-- z_{n-1}, the entry of zone n, with z_0 = O_in. -/
def GeomRecord.zoneEntry (g : GeomRecord) (n : ZoneIx) : Nat :=
  if h : n.val = 0 then g.ovenIn else g.zoneEnds[n.val - 1]

/-- O_out = z_Z, and O_in for a line without an oven. -/
def GeomRecord.ovenOut (g : GeomRecord) : Nat :=
  if h : 1 ≤ g.zoneCount ∧ g.zoneCount ≤ 8 then g.zoneEnds[g.zoneCount - 1] else g.ovenIn

/-- The millimetre fields in µm (R1). -/
def mm (n : Nat) : Nat := n * 1000

/-! ### Fabric and path -/

/-- W - D (spec/02 section 2.1). -/
def State.front (s : State) : Int := (s.web.w : Int) - s.web.deficit

/-- The fabric coordinate of the point of fabric now at path position p: u = W - D - p (spec/02 section 2.1). -/
def State.fabricAt (s : State) (p : Nat) : Int := s.front - p

/-! ### Free orders (log entry 4) -/

/-- The elements of `l` in the order that `code` selects; every order of a list is selected by some code, and code 0
keeps the list's own order. The first argument bounds the recursion. -/
def permuteAux {α : Type} : Nat → Nat → List α → List α
  | 0, _, _ => []
  | n + 1, code, l =>
    match l[code % l.length]? with
    | none => []
    | some a => a :: permuteAux n (code / l.length) (l.eraseIdx (code % l.length))

def permute {α : Type} (code : Nat) (l : List α) : List α := permuteAux l.length code l

/-! ### Points of the scanner read by the blocks -/

/-- The point 6(k-1) + n of station k (R89). -/
def stationPoint (k : StationIx) (n : Fin 6) : PointNo := ⟨6 * k.val + n.val, by omega⟩

/-- The debounced state of a point. -/
def State.debounced (s : State) (p : PointNo) : Bool := (s.point p).debounced

def State.downTrue (s : State) (k : StationIx) : Bool := s.debounced (stationPoint k 0)
def State.upTrue (s : State) (k : StationIx) : Bool := s.debounced (stationPoint k 1)
def State.driveReady (s : State) (k : StationIx) : Bool := s.debounced (stationPoint k 2)
def State.guardClosed (s : State) (k : StationIx) : Bool := s.debounced (stationPoint k 3)
def State.pasteEmpty (s : State) (k : StationIx) : Bool := s.debounced (stationPoint k 5)

/-- ZONE_n_BAND (R163). -/
def zonePoint (n : ZoneIx) : PointNo := ⟨96 + n.val, by omega⟩
/-- ESTOP_CHAIN_OK (R163). -/
def estopPoint : PointNo := 104
/-- MAIN_DRIVE_READY (R163). -/
def mainDrivePoint : PointNo := 105
/-- SERVICE_KEY (R163). -/
def serviceKeyPoint : PointNo := 106
/-- BATCHER_READY (R163). -/
def batcherPoint : PointNo := 107

/-! ### Numbers of a request and the indices they name -/

/-- The station a request's number names, none outside 1 to 16. -/
def stationOf (n : Nat) : Option StationIx := if h : 1 ≤ n ∧ n ≤ 16 then some ⟨n - 1, by omega⟩ else none
/-- The job slot a request's number names, none outside 1 to 4. -/
def slotOf (n : Nat) : Option SlotIx := if h : 1 ≤ n ∧ n ≤ 4 then some ⟨n - 1, by omega⟩ else none
/-- The group a request's number names, none outside 1 to 20. -/
def groupOf (n : Nat) : Option GroupIx := if h : 1 ≤ n ∧ n ≤ 20 then some ⟨n - 1, by omega⟩ else none
/-- The point a request's number names, none outside 0 to 127. -/
def pointOf (n : Nat) : Option PointNo := if h : n < 128 then some ⟨n, h⟩ else none

/-! ### The outcome of a command -/

/-- A command acts on a part that has power and changes nothing on one that has none (log entry 13). -/
def act (s : State) (f : State → State) : Host.Outcome State Fault Refusal := .next (if s.powered then f s else s)

/-- A command whose agents act in a free order: it uses the next free order and advances the counter (log entry 4). -/
def withFreeOrder (f : Nat → State → State) (s : State) : State :=
  f (Config.freeOrder s.freeIx) (s.putFreeIx (s.freeIx + 1))

end Sys2Proof.Machine
end

