-- ==== Sys2Proof/Machine/Operands.lean ====
section
/-! DEFINITION. The operand forms of the requests: the geometry record and the job record as they are carried and stored
(section 11.4), and the short fields of the other requests (section 11.1).  A body is read only after its length has
been found to fit (R182 step 3). -/
namespace Sys2Proof.Machine

/-! ### The geometry record, 410 bytes (section 11.4) -/

/-- The station entry at offset `off`, 22 bytes. -/
def readGeomStation (bytes : List Byte) (off : Nat) : GeomStation where
  markPos := field bytes off 4
  nipPos := field bytes (off + 4) 4
  liftLeadMm := field bytes (off + 8) 2
  trailGuardMm := field bytes (off + 10) 2
  countsPerRev := field bytes (off + 12) 4
  lowerTimeout := field bytes (off + 16) 2
  raiseTimeout := field bytes (off + 18) 2
  trimTimeout := field bytes (off + 20) 2

/-- The geometry record that 410 bytes carry: the line part of 58 bytes, then sixteen station entries. -/
def readGeometry (bytes : List Byte) : GeomRecord where
  installed := field bytes 0 1
  encoderScale := field bytes 1 2
  holdOffMm := field bytes 3 2
  allowanceMm := field bytes 5 2
  ovenIn := field bytes 7 4
  zoneCount := field bytes 11 1
  zoneEnds := Vector.ofFn fun n => field bytes (12 + 4 * n.val) 4
  exitPos := field bytes 44 4
  debounceStation := field bytes 48 1
  debounceLine := field bytes 49 1
  acceleration := field bytes 50 2
  deceleration := field bytes 52 2
  tripDeceleration := field bytes 54 2
  jogSpeed := field bytes 56 2
  stations := Vector.ofFn fun k => readGeomStation bytes (58 + 22 * k.val)

def geomStationBytes (g : GeomStation) : List Byte :=
  beBytes 4 g.markPos ++ beBytes 4 g.nipPos ++ beBytes 2 g.liftLeadMm ++ beBytes 2 g.trailGuardMm
    ++ beBytes 4 g.countsPerRev ++ beBytes 2 g.lowerTimeout ++ beBytes 2 g.raiseTimeout ++ beBytes 2 g.trimTimeout

/-- The 410 bytes of a geometry record, in item order (section 11.4). -/
def geometryBytes (g : GeomRecord) : List Byte :=
  beBytes 1 g.installed ++ beBytes 2 g.encoderScale ++ beBytes 2 g.holdOffMm ++ beBytes 2 g.allowanceMm
    ++ beBytes 4 g.ovenIn ++ beBytes 1 g.zoneCount ++ allZones.flatMap (fun n => beBytes 4 (g.zoneEnd n))
    ++ beBytes 4 g.exitPos ++ beBytes 1 g.debounceStation ++ beBytes 1 g.debounceLine ++ beBytes 2 g.acceleration
    ++ beBytes 2 g.deceleration ++ beBytes 2 g.tripDeceleration ++ beBytes 2 g.jogSpeed
    ++ allStations.flatMap (fun k => geomStationBytes g.stations[k])

/-! ### The job record, 185 bytes (section 11.4) -/

/-- A station entry as a Load Job carries it: the mode and keep codes unchecked. -/
structure RawJobEntry where
  mode : Nat
  offset : Int
  stretch : Int
  tolerance : Nat
  keep : Nat
  deriving DecidableEq, Repr

/-- A job record as a Load Job carries it, before the checks of R114 and the clamps of R115. -/
structure RawJob where
  id : Nat
  rpt : Nat
  reference : Nat
  gain : Nat
  deadBand : Nat
  trimLimit : Nat
  window : Nat
  missLimit : Nat
  huntSpeed : Nat
  maxSpeed : Nat
  dwell : Nat
  haltDwell : Nat
  entries : Vector RawJobEntry 16
  deriving DecidableEq, Repr

/-- The station entry at offset `off`, 10 bytes. -/
def readJobEntry (bytes : List Byte) (off : Nat) : RawJobEntry where
  mode := field bytes off 1
  offset := fieldSigned bytes (off + 1) 4
  stretch := fieldSigned bytes (off + 5) 2
  tolerance := field bytes (off + 7) 2
  keep := field bytes (off + 9) 1

/-- The job record that 185 bytes carry: the job part of 25 bytes, then sixteen station entries. -/
def readJobRecord (bytes : List Byte) : RawJob where
  id := field bytes 0 2
  rpt := field bytes 2 4
  reference := field bytes 6 1
  gain := field bytes 7 1
  deadBand := field bytes 8 2
  trimLimit := field bytes 10 2
  window := field bytes 12 4
  missLimit := field bytes 16 1
  huntSpeed := field bytes 17 2
  maxSpeed := field bytes 19 2
  dwell := field bytes 21 2
  haltDwell := field bytes 23 2
  entries := Vector.ofFn fun k => readJobEntry bytes (25 + 10 * k.val)

/-- The code of a mode (R197). -/
def Mode.code : Mode → Nat
  | .off => 0
  | .print => 1
  | .idle => 2

/-- The mode of a code, none for a code that is not OFF, PRINT or IDLE. -/
def modeOf : Nat → Option Mode
  | 0 => some .off
  | 1 => some .print
  | 2 => some .idle
  | _ => none

def jobEntryBytes (e : JobEntry) : List Byte :=
  beBytes 1 e.mode.code ++ beSigned 4 e.offset ++ beSigned 2 e.stretch ++ beBytes 2 e.tolerance ++ [flagByte e.keep]

/-- The 185 bytes of a stored job record (section 11.4). -/
def jobBytes (j : Job) : List Byte :=
  beBytes 2 j.id ++ beBytes 4 j.rpt ++ beBytes 1 (j.reference.val + 1) ++ beBytes 1 j.gain ++ beBytes 2 j.deadBand
    ++ beBytes 2 j.trimLimit ++ beBytes 4 j.window ++ beBytes 1 j.missLimit ++ beBytes 2 j.huntSpeed
    ++ beBytes 2 j.maxSpeed ++ beBytes 2 j.dwell ++ beBytes 2 j.haltDwell
    ++ allStations.flatMap (fun k => jobEntryBytes j.entries[k])

/-! ### Direction codes (R197) -/

def directionCode : Direction → Nat
  | .forward => 0
  | .reverse => 1

/-- The direction of a code, none for a code that is neither. -/
def directionOf : Nat → Option Direction
  | 0 => some .forward
  | 1 => some .reverse
  | _ => none

end Sys2Proof.Machine
end

