-- ==== Sys2Proof/Machine/Geometry.lean ====
section
/-! DEFINITION. The geometry record's checks (R3, R4), the gate table (R10) and the settings store (R7, R8, R198). -/
namespace Sys2Proof.Machine

/-- The installed stations of a record, by its item 1. -/
def GeomRecord.installedStations (g : GeomRecord) : List StationIx := allStations.filter (fun k => k.val < g.installed)

/-- The zones of a record, by its item 6. -/
def GeomRecord.zones (g : GeomRecord) : List ZoneIx := allZones.filter (fun n => n.val < g.zoneCount)

/-- The scalar ranges of one installed station entry (R3). -/
def GeomStation.rangesHold (e : GeomStation) : Bool :=
  100 ≤ e.liftLeadMm && e.liftLeadMm ≤ 3000 && 50 ≤ e.trailGuardMm && e.trailGuardMm ≤ 2000
    && 256 ≤ e.countsPerRev && e.countsPerRev ≤ 65536 && 100 ≤ e.lowerTimeout && e.lowerTimeout ≤ 5000
    && 100 ≤ e.raiseTimeout && e.raiseTimeout ≤ 5000 && 50 ≤ e.trimTimeout && e.trimTimeout ≤ 2000

/-- The range checks of R3, items 1 to 4, 6, 16 to 21 and the installed station entries. -/
def GeomRecord.rangesHold (g : GeomRecord) : Bool :=
  1 ≤ g.installed && g.installed ≤ 16 && 1 ≤ g.encoderScale && g.encoderScale ≤ 1000
    && 100 ≤ g.holdOffMm && g.holdOffMm ≤ 5000 && 100 ≤ g.allowanceMm && g.allowanceMm ≤ 5000
    && g.zoneCount ≤ 8 && 1 ≤ g.debounceStation && g.debounceStation ≤ 15 && 1 ≤ g.debounceLine && g.debounceLine ≤ 15
    && 10 ≤ g.acceleration && g.acceleration ≤ 2000 && 10 ≤ g.deceleration && g.deceleration ≤ 2000
    && 10 ≤ g.tripDeceleration && g.tripDeceleration ≤ 2000 && 100 ≤ g.jogSpeed && g.jogSpeed ≤ 1000
    && g.installedStations.all (fun k => g.stations[k].rangesHold)

/-- CLEAR_max, the largest n_k + trail guard_k over the installed stations (R4). -/
def GeomRecord.clearMax (g : GeomRecord) : Nat :=
  (g.installedStations.map (fun k => g.stations[k].nipPos + mm g.stations[k].trailGuardMm)).foldl max 0

/-- 0 < p ≤ 200,000,000 (R4). -/
def positionHolds (p : Nat) : Bool := 0 < p && p ≤ Config.positionLimit

/-- The item number of field `f` of station k's entry: 32 + 8(k-1) + f. -/
def stationItem (k : StationIx) (f : Nat) : Nat := 32 + 8 * k.val + f

/-- The checks of R4 on one installed station, each with the item it blames. -/
def GeomRecord.stationChecks (g : GeomRecord) (k : StationIx) : List (Bool × Nat) :=
  let e := g.stations[k]
  [(positionHolds e.markPos, stationItem k 0), (positionHolds e.nipPos, stationItem k 1),
   (e.markPos < e.nipPos, stationItem k 1), (mm e.liftLeadMm ≤ e.nipPos, stationItem k 2)]
  ++ (if h : k.val + 1 < g.installed ∧ k.val + 1 < 16 then
        [(decide (e.nipPos < g.stations[k.val + 1].markPos), stationItem ⟨k.val + 1, h.2⟩ 0)]
      else [])

/-- The checks of R4 on the oven and the exit, each with the item it blames. -/
def GeomRecord.lineChecks (g : GeomRecord) : List (Bool × Nat) :=
  (positionHolds g.exitPos, 15) ::
    (if 1 ≤ g.zoneCount then
      [(positionHolds g.ovenIn, 5), (decide (g.clearMax < g.ovenIn), 5)]
      ++ g.zones.flatMap (fun n =>
          [(positionHolds (g.zoneEnd n), 7 + n.val), (decide (g.zoneEntry n < g.zoneEnd n), 7 + n.val)])
      ++ [(decide (g.ovenOut < g.exitPos), 15)]
     else [(decide (g.clearMax < g.exitPos), 15)])

/-- The items that the combination checks of R4 blame. -/
def GeomRecord.blamed (g : GeomRecord) : List Nat :=
  ((g.installedStations.flatMap g.stationChecks ++ g.lineChecks).filter (fun c => !c.1)).map (·.2)

/-- The smallest of a list of item numbers, none for an empty list. -/
def smallestItem : List Nat → Option Nat
  | [] => none
  | a :: l => some (l.foldl min a)

/-! ### The gate table (R10) -/

/-- A gate placed after every gate at its position or before it: an insertion that keeps the order of equals. -/
def insertGate (g : Gate) : List Gate → List Gate
  | [] => [g]
  | x :: l => if x.pos ≤ g.pos then x :: insertGate g l else g :: x :: l

/-- The gates of a geometry in the order that settles equal positions: stations by number, LIFT, NIP, CLEAR, then the
line gates (R10). -/
def GeomRecord.gateList (g : GeomRecord) : List Gate :=
  g.installedStations.flatMap (fun k =>
    let e := g.stations[k]
    [⟨.lift k, e.nipPos - mm e.liftLeadMm⟩, ⟨.nip k, e.nipPos⟩, ⟨.clear k, e.nipPos + mm e.trailGuardMm⟩])
  ++ (if 1 ≤ g.zoneCount then [⟨.ovenIn, g.ovenIn⟩, ⟨.ovenOut, g.ovenOut⟩] else [])
  ++ [⟨.exit, g.exitPos⟩]

/-- The gate table of a geometry, sorted by position (R10). -/
def GeomRecord.gateTable (g : GeomRecord) : List Gate := g.gateList.foldl (fun t x => insertGate x t) []

/-! ### The settings store (R7, R8, R198) -/

/-- What a completed Save Geometry leaves in the store: the record and its CRC (R198). -/
def storeImage (g : GeomRecord) : StoreCopy := .holds (geometryBytes g ++ crcBytes (geometryBytes g))

/-- The record of a good store: its CRC matches and it passes the range and combination checks (R8). -/
def StoreCopy.good : StoreCopy → Option GeomRecord
  | .torn => none
  | .holds bytes =>
    let body := bytes.take 410
    let g := readGeometry body
    if body.length = 410 ∧ bytes.drop 410 = crcBytes body ∧ g.rangesHold = true ∧ g.blamed = [] then some g else none

/-- The stored copy after power fails or the part is reset: torn when a write was in progress (R7). -/
def GeometryStore.afterInterruption (g : GeometryStore) : StoreCopy :=
  match g.writing with
  | some _ => .torn
  | none => g.stored

end Sys2Proof.Machine
end

