-- ==== Sys2Proof/Machine/Jobs.lean ====
section
/-! DEFINITION. Jobs and changeover (spec/06): the slots, the checks and clamps of a job record (R114, R115), the checks of
Start Job and Stage Job, and the values in force (R129, R130). -/
namespace Sys2Proof.Machine

/-! ### Slots (R113) -/

/-- The job a slot holds. -/
def Slot.job : Slot → Option Job
  | .empty => none
  | .loaded j | .active j | .staged j => some j

def Slot.isActive : Slot → Bool
  | .active _ => true
  | _ => false

/-- The slot with its job in state LOADED. -/
def Slot.toLoaded (x : Slot) : Slot :=
  match x.job with
  | some j => .loaded j
  | none => .empty

/-- The slot with its job in state ACTIVE. -/
def Slot.toActive (x : Slot) : Slot :=
  match x.job with
  | some j => .active j
  | none => .empty

/-- The slot with its job in state STAGED. -/
def Slot.toStaged (x : Slot) : Slot :=
  match x.job with
  | some j => .staged j
  | none => .empty

/-- The active slot: the slot in state ACTIVE, or none (R113). -/
def State.activeSlot (s : State) : Option SlotIx := allSlots.find? (fun i => (s.slot i).isActive)

/-- The active job. -/
def State.activeJob (s : State) : Option Job := s.activeSlot.bind (fun i => (s.slot i).job)

/-- Whether a job is active. -/
def State.jobActive (s : State) : Bool := s.activeSlot.isSome

/-- The active job's id, 0 with no job active (R24, R25). -/
def State.activeJobId (s : State) : Nat :=
  match s.activeJob with
  | some j => j.id
  | none => 0

/-- The job of a slot number that may be absent. -/
def State.jobOfSlot (s : State) (i : Option SlotIx) : Option Job := i.bind (fun i => (s.slot i).job)

/-- The staged job of the changeover record. -/
def State.stagedJob (s : State) : Option Job := s.jobOfSlot s.changeover.stagedSlot

/-- The job in force for a station: that of its slot in force (R59, R90). -/
def State.jobFor (s : State) (k : StationIx) : Option Job := s.jobOfSlot (s.station k).slot

/-! ### Load Job (R114, R115) -/

/-- The item of field `f` of station k's entry of a job record: 16 + 5(k-1) + f. -/
def entryItem (k : StationIx) (f : Nat) : Nat := 16 + 5 * k.val + f

/-- The structural ranges of R114 step 3. -/
def RawJob.structureHolds (r : RawJob) : Bool :=
  1 ≤ r.id && 400000 ≤ r.rpt && r.rpt ≤ 1600000 && r.rpt % 10 == 0 && 1 ≤ r.reference && r.reference ≤ 16
    && allStations.all (fun k => r.entries[k].mode ≤ 2 && r.entries[k].keep ≤ 1)

/-- The items that the combination checks of R114 step 4 blame, with the installed count when the geometry state is
VALID. -/
def RawJob.blamed (r : RawJob) (installed : Option Nat) : List Nat :=
  (match stationOf r.reference with
   | some k => if r.entries[k].mode = 1 then [] else [3]
   | none => [3])
  ++ (allStations.filter (fun k => decide (k.val + 1 < r.reference) && r.entries[k].mode == 1)).map (entryItem · 0)
  ++ (match installed with
      | some n => (allStations.filter (fun k => decide (n ≤ k.val) && r.entries[k].mode != 0)).map (entryItem · 0)
      | none => [])

/-- A value brought into a range (R115). -/
def clampNat (lo hi n : Nat) : Nat := if n < lo then lo else if hi < n then hi else n

def clampInt (lo hi n : Int) : Int := if n < lo then lo else if hi < n then hi else n

/-- A register offset wrapped into (-R/2, R/2] (R115). -/
def wrapOffset (rpt : Nat) (o : Int) : Int :=
  let r := o % rpt
  if r > (rpt / 2 : Nat) then r - rpt else r

/-- The station entry as stored (R115), with the clamped dead band and the record's repeat. -/
def RawJobEntry.stored (e : RawJobEntry) (rpt deadBand : Nat) : JobEntry where
  mode := (modeOf e.mode).getD .off
  offset := wrapOffset rpt e.offset
  stretch := clampInt (-2000) 2000 e.stretch
  tolerance := clampNat deadBand 5000 e.tolerance
  keep := e.keep == 1

/-- The job record as stored (R115). -/
def RawJob.stored (r : RawJob) : Job :=
  let b := clampNat 0 2000 r.deadBand
  { id := r.id
    rpt := r.rpt
    reference := (stationOf r.reference).getD 0
    gain := clampNat 1 16 r.gain
    deadBand := b
    trimLimit := clampNat 10 5000 r.trimLimit
    window := clampNat 1000 (r.rpt / 4) r.window
    missLimit := clampNat 1 8 r.missLimit
    huntSpeed := clampNat 500 6000 r.huntSpeed
    maxSpeed := clampNat 100 20000 r.maxSpeed
    dwell := clampNat 100 6000 r.dwell
    haltDwell := clampNat 0 6000 r.haltDwell
    entries := Vector.ofFn fun k => r.entries[k].stored r.rpt b }

/-- The setpoint fields of a record, each with its item and whether the stored value differs from the request's, in
item order (R115). -/
def RawJob.clampReport (r : RawJob) : List (Nat × Bool) :=
  let j := r.stored
  [(4, j.gain != r.gain), (5, j.deadBand != r.deadBand), (6, j.trimLimit != r.trimLimit), (7, j.window != r.window),
   (8, j.missLimit != r.missLimit), (9, j.huntSpeed != r.huntSpeed), (10, j.maxSpeed != r.maxSpeed),
   (11, j.dwell != r.dwell), (12, j.haltDwell != r.haltDwell)]
  ++ allStations.flatMap (fun k =>
    [(entryItem k 1, j.entries[k].offset != r.entries[k].offset),
     (entryItem k 2, j.entries[k].stretch != r.entries[k].stretch),
     (entryItem k 3, j.entries[k].tolerance != r.entries[k].tolerance)])

/-- The items of the clamped fields (R115). -/
def RawJob.clampedItems (r : RawJob) : List Nat := (r.clampReport.filter (·.2)).map (·.1)

/-! ### Checks of Start Job and Stage Job (R117, R119) -/

/-- The mode items of the stations above N that a job does not leave OFF (R117 check 6, R119 check 7). -/
def Job.beyondInstalled (j : Job) (n : Nat) : List Nat :=
  (allStations.filter (fun k => decide (n ≤ k.val) && j.entries[k].mode != .off)).map (entryItem · 0)

/-- The station numbers at which a staged job would change a screen (R119 check 9). -/
def screenChanges (installed : List StationIx) (old new : Job) : List Nat :=
  (installed.filter (fun k => (old.entries[k].mode == .off) != (new.entries[k].mode == .off))).map (·.val + 1)

/-! ### Values in force (R129, R130) -/

/-- Whether no station has switched. -/
def Changeover.noneSwitched (c : Changeover) : Bool := allStations.all (fun k => !c.switched[k])

/-- Whether the speeds and H in force are the smaller of the two jobs' (R129): BOUND, and PENDING with a switched
station. -/
def Changeover.bothSpeeds (c : Changeover) : Bool :=
  match c.state with
  | .bound => true
  | .pending => !c.noneSwitched
  | .none | .settling => false

/-- The smaller of an old value and the staged job's (R129). -/
def State.smallerOf (s : State) (old : OldValues → Nat) (job : Job → Nat) : Option Nat :=
  match s.changeover.old, s.stagedJob with
  | some o, some j => some (min (old o) (job j))
  | _, _ => none

/-- The maximum line speed in force (R129). -/
def State.maxSpeedInForce (s : State) : Option Nat :=
  if s.changeover.bothSpeeds then s.smallerOf (·.maxSpeed) (·.maxSpeed) else s.activeJob.map (·.maxSpeed)

/-- The hunt speed in force (R129). -/
def State.huntSpeedInForce (s : State) : Option Nat :=
  if s.changeover.bothSpeeds then s.smallerOf (·.huntSpeed) (·.huntSpeed) else s.activeJob.map (·.huntSpeed)

/-- The halt dwell in force (R129). -/
def State.haltDwellInForce (s : State) : Option Nat :=
  if s.changeover.bothSpeeds then s.smallerOf (·.haltDwell) (·.haltDwell)
  else if s.changeover.state = .settling then
    match s.changeover.old, s.activeJob with
    | some o, some j => some (min o.haltDwell j.haltDwell)
    | _, _ => none
  else s.activeJob.map (·.haltDwell)

/-- The job that a changeover is bringing in: the staged job, or the active job once the changeover has completed
(R130). -/
def State.newJob (s : State) : Option Job := if s.changeover.state = .settling then s.activeJob else s.stagedJob

/-- The cure dwell in force (R130). -/
def State.dwellInForce (s : State) : Option Nat :=
  match s.changeover.state with
  | .none => s.activeJob.map (·.dwell)
  | .pending | .bound | .settling =>
    match s.changeover.blend with
    | .old => s.changeover.old.map (·.dwell)
    | .both =>
      match s.changeover.old, s.newJob with
      | some o, some j => some (max o.dwell j.dwell)
      | _, _ => none

end Sys2Proof.Machine
end

