-- ==== Sys2Proof/Machine/Flags.lean ====
section
/-! DEFINITION. The sets of flags: the notice pending set and its latch (R188), the owed notices (R189), the lift-reason
set (R91), the trip cause set (R147) and the masks and words in which they are carried (chapter 11). -/
namespace Sys2Proof.Machine

/-! ### Notices -/

/-- The notice number of a detail's kind (section 10.6). -/
def NoticeDetail.number : NoticeDetail → NoticeNo
  | .restarted _ _ => 0
  | .lockLost _ _ => 1
  | .phaseSlip _ _ => 2
  | .trimTimeout _ _ _ => 3
  | .stationStuck _ _ => 4
  | .seamStrike _ _ => 5
  | .trip _ => 6
  | .trackFull _ _ => 7
  | .seamUntracked _ _ => 8
  | .reportReady _ _ => 9
  | .reportLost _ _ => 10
  | .changes _ _ => 11
  | .queueOverflow _ => 12
  | .changeoverBound _ _ _ => 13
  | .changeoverDone _ _ _ => 14
  | .undercureOpen _ => 15
  | .overcure _ _ => 16
  | .pasteLow _ => 17
  | .linkError _ => 18
  | .linkOverrun _ _ => 19

def State.notice (s : State) (n : NoticeNo) : Notice := s.link.notices[n]

def State.putNotice (s : State) (n : NoticeNo) (x : Notice) : State :=
  s.putLink { s.link with notices := s.link.notices.set n.val x n.isLt }

/-- A latch of a notice kind that has detail `d` (R188): a kind not pending takes the detail and the count 1, a pending
kind keeps its detail and counts one more, up to 255. -/
def Notice.latched (x : Notice) (d : Option NoticeDetail) : Notice :=
  if x.pending then { x with count := if x.count < 255 then x.count + 1 else x.count }
  else { x with pending := true, detail := d, count := 1 }

/-- A latch made by a block.  While the link is STARTING it is not recorded (R186). -/
def latch (d : NoticeDetail) (s : State) : State :=
  match s.link.state with
  | .starting => s
  | .ready => s.putNotice d.number ((s.notice d.number).latched (some d))

/-- Whether the notice frame of kind `n` is owed (R189). -/
def Link.owes (l : Link) (n : NoticeNo) : Bool := l.notices[n].pending && l.subscribed[n] && !l.notices[n].sent

/-- The owed notice with the lowest number (R184). -/
def Link.firstOwed (l : Link) : Option NoticeNo := (List.finRange 20).find? l.owes

/-- A mask of the twenty notice kinds, bit n for notice n (section 11.1). -/
def noticeMask (v : Vector Bool 20) : Nat := maskOf 20 (fun n => v[n]?.getD false)

/-- The mask of the pending kinds. -/
def Link.pendingMask (l : Link) : Nat := maskOf 20 (fun n => (l.notices[n]?.map (·.pending)).getD false)

/-! ### The lift-reason set -/

/-- A lift reason (R91). -/
inductive LiftReason where
  | seam | operator | fault | drive | guard | paste | jobIdle
  deriving DecidableEq, Repr

/-- The set with one reason present or absent. -/
def LiftSet.set (r : LiftSet) (x : LiftReason) (b : Bool) : LiftSet :=
  match x with
  | .seam => { r with seam := b }
  | .operator => { r with operator := b }
  | .fault => { r with fault := b }
  | .drive => { r with drive := b }
  | .guard => { r with guard := b }
  | .paste => { r with paste := b }
  | .jobIdle => { r with jobIdle := b }

/-- Whether the set holds a reason. -/
def LiftSet.has (r : LiftSet) : LiftReason → Bool
  | .seam => r.seam
  | .operator => r.operator
  | .fault => r.fault
  | .drive => r.drive
  | .guard => r.guard
  | .paste => r.paste
  | .jobIdle => r.jobIdle

/-- Whether the set holds any reason other than SEAM (R105). -/
def LiftSet.unplanned (r : LiftSet) : Bool := r.operator || r.fault || r.drive || r.guard || r.paste || r.jobIdle

/-- Whether the set is empty. -/
def LiftSet.isEmpty (r : LiftSet) : Bool := !(r.seam || r.unplanned)

/-- The byte of the set (R197). -/
def LiftSet.code (r : LiftSet) : Nat :=
  r.seam.toNat + 2 * r.operator.toNat + 4 * r.fault.toNat + 8 * r.drive.toNat + 16 * r.guard.toNat
    + 32 * r.paste.toNat + 64 * r.jobIdle.toNat

/-! ### The trip cause set -/

/-- The set with one cause added. -/
def TripSet.insert (t : TripSet) : TripCause → TripSet
  | .estop => { t with estop := true }
  | .mainDrive => { t with mainDrive := true }
  | .raiseFail => { t with raiseFail := true }
  | .seamStrike => { t with seamStrike := true }
  | .seamUntracked => { t with seamUntracked := true }
  | .guard => { t with guard := true }
  | .reverseLimit => { t with reverseLimit := true }
  | .webLimit => { t with webLimit := true }

/-- Whether the set holds a cause. -/
def TripSet.has (t : TripSet) : TripCause → Bool
  | .estop => t.estop
  | .mainDrive => t.mainDrive
  | .raiseFail => t.raiseFail
  | .seamStrike => t.seamStrike
  | .seamUntracked => t.seamUntracked
  | .guard => t.guard
  | .reverseLimit => t.reverseLimit
  | .webLimit => t.webLimit

/-- Bits 0 to 7 of the cause word (section 11.2); the bits that the section does not name are 0 (DESIGN CHOICE, log entry 31). -/
def TripSet.word (t : TripSet) : Nat :=
  t.estop.toNat + 2 * t.mainDrive.toNat + 4 * t.raiseFail.toNat + 8 * t.seamStrike.toNat + 16 * t.seamUntracked.toNat
    + 32 * t.guard.toNat + 64 * t.reverseLimit.toNat + 128 * t.webLimit.toNat

end Sys2Proof.Machine
end

