-- ==== Sys2Proof/Machine/Reports.lean ====
section
/-! DEFINITION. Exit and roll reports (spec/03, R46 to R57): what a tag's EXIT crossing does to the open report and the
report queue. -/
namespace Sys2Proof.Machine

/-- A number held at the nearest end of 0 to 4,294,967,295 (R48, R51). -/
def holdLength (n : Int) : Nat := if n < 0 then 0 else if 4294967295 < n then 4294967295 else n.toNat

/-- A number held at the nearest end of the start offset's range (R51). -/
def holdOffset (n : Int) : Int := max (-2147483648) (min 2147483647 n)

/-- The number after `n` in a numbering from 1 to 65,535 (R19, R48). -/
def nextNumberAfter (n : Nat) : Nat := if n < 65535 then n + 1 else 1

/-- The closed report that the open report becomes at u_close (R48). -/
def closedReport (r : OpenReport) (number : Nat) (uClose : Int) (by' : ClosedBy) : Report where
  number := number
  roll := r.roll
  uHead := r.uHead
  measured := holdLength ((uClose - r.uHead) / 1000)
  closedBy := by'
  items := r.items
  overflow := r.overflow

/-- A closed report is offered to the queue: appended with REPORT_READY latched, or lost with REPORT_LOST latched (R55). -/
def offerReport (r : Report) (s : State) : State :=
  if s.reports.queue.length < Config.reportPlaces then
    latch (.reportReady r.number r.roll.rollId) (s.putReports { s.reports with queue := s.reports.queue ++ [r] })
  else
    latch (.reportLost r.roll.rollId r.number) (s.putReports { s.reports with lost := satInc s.reports.lost })

/-- The open report, if any, closes at u_close, takes the next report number and is offered to the queue (R46, R47, R48). -/
def closeReport (uClose : Int) (by' : ClosedBy) (s : State) : State :=
  match s.reports.current with
  | none => s
  | some r =>
    let n := s.reports.nextNumber
    offerReport (closedReport r n uClose by')
      (s.putReports { s.reports with current := none, nextNumber := nextNumberAfter n })

/-- A ROLL_HEAD's EXIT crossing (R46). -/
def openReportAt (roll : RollRecord) (u : Int) (s : State) : State :=
  let s := closeReport u .nextHead s
  s.putReports { s.reports with current := some ⟨roll, u, [], 0⟩ }

/-- An item reaches the open report: stored, counted in the overflow (R53), or unassigned (R54). -/
def addItem (kind : ItemKind) (uStart : Int) (uEnd : Int) (s : State) : State :=
  match s.reports.current with
  | none => s.putReports { s.reports with unassigned := satInc s.reports.unassigned }
  | some r =>
    let item : Item := ⟨kind, holdOffset ((uStart - r.uHead) / 1000), holdLength ((uEnd - uStart) / 1000)⟩
    let r' : OpenReport :=
      if r.items.length < Config.itemPlaces then { r with items := r.items ++ [item] }
      else { r with overflow := if r.overflow < 255 then r.overflow + 1 else r.overflow }
    s.putReports { s.reports with current := some r' }

/-- A tag's EXIT crossing at exit and roll reports (R46, R47, R49, R50).  A span's crossing is taken only once it is
closed; its u_end is then present. -/
def exitTag (t : Tag) (s : State) : State :=
  let uEnd := t.uEnd.getD t.uStart
  match t.kind with
  | .seam _ => closeReport t.uStart .seam s
  | .rollHead roll => openReportAt roll t.uStart s
  | .marker label => addItem (.marker label) t.uStart t.uStart s
  | .printGap k planned => if planned then s else addItem (.printGap k) t.uStart uEnd s
  | .misregister k => addItem (.misregister k) t.uStart uEnd s
  | .undercure c => addItem (.undercure c) t.uStart uEnd s
  | .overcure => addItem .overcure t.uStart uEnd s

end Sys2Proof.Machine
end

