-- ==== Sys2Proof/Machine/Track.lean ====
section
/-! DEFINITION. The tag track (spec/02): ids, order, insertion, the crossings that fall due, the close of a span,
eviction and dropped insertions.  The crossings that other blocks act on are in Crossings.lean. -/
namespace Sys2Proof.Machine

/-! ### Tags and gates -/

def TagKind.isSpan : TagKind → Bool
  | .seam _ | .rollHead _ | .marker _ => false
  | .printGap _ _ | .misregister _ | .undercure _ | .overcure => true

/-- A span is open while its end is not known; point tags are always closed (spec/02 section 2.1). -/
def Tag.isOpen (t : Tag) : Bool := t.kind.isSpan && t.uEnd.isNone

def Tag.isRollHead (t : Tag) : Bool :=
  match t.kind with
  | .rollHead _ => true
  | _ => false

def Tag.isBound (t : Tag) : Bool :=
  match t.kind with
  | .seam (some _) => true
  | _ => false

/-- The W at which the crossing of gate `g` by tag `t` falls due; an open span's EXIT crossing has none (R29). -/
def crossingDue (t : Tag) (g : Gate) : Option Int :=
  match g.kind with
  | .exit => if t.kind.isSpan then t.uEnd.map (· + g.pos) else some (t.uStart + g.pos)
  | _ => some (t.uStart + g.pos)

/-- The gate of the tag's next crossing. -/
def State.nextGateOf (s : State) (t : Tag) : Option Gate := s.geom.gates[t.nextGate]?

/-- The W at which the tag's next crossing falls due. -/
def State.nextDue (s : State) (t : Tag) : Option Int := (s.nextGateOf t).bind (crossingDue t)

/-- Whether the tag's next crossing is due: Wmax has reached it (R29). -/
def State.isDue (s : State) (t : Tag) : Bool :=
  match s.nextDue t with
  | some d => d ≤ (s.web.wmax : Int)
  | none => false

/-! ### The collection of tags -/

def State.tags (s : State) : List Tag := s.track.tags

def State.putTags (s : State) (l : List Tag) : State := s.putTrack { s.track with tags := l }

/-- A tag placed after every tag whose u_start is at most its own and before every other (R20). -/
def placeTag (t : Tag) : List Tag → List Tag
  | [] => [t]
  | x :: l => if x.uStart ≤ t.uStart then x :: placeTag t l else t :: x :: l

/-- The tag with id `n`. -/
def findTag (n : Nat) (l : List Tag) : Option Tag := l.find? (fun t => t.id == n)

/-- Every tag with id `n` changed by `f`. -/
def mapTag (n : Nat) (f : Tag → Tag) (l : List Tag) : List Tag := l.map (fun t => if t.id = n then f t else t)

/-- The tags without id `n`. -/
def dropTag (n : Nat) (l : List Tag) : List Tag := l.filter (fun t => t.id != n)

/-! ### Ids (R19) -/

/-- The first id from `n` on that no tag of the list holds, passing over at most `fuel` ids. -/
def freeIdFrom : Nat → Nat → List Tag → Nat
  | 0, n, _ => n
  | fuel + 1, n, l => if l.any (fun t => t.id == n) then freeIdFrom fuel (nextNumberAfter n) l else n

/-- The id of the next insertion. -/
def State.newId (s : State) : Nat := freeIdFrom Config.trackPlaces s.track.nextId s.tags

/-! ### Insertion -/

/-- The index that a tag's crossings reach silently: past every due gate before EXIT (R21). -/
def silentIndex (gates : List Gate) (wmax : Int) (u : Int) : Nat :=
  (gates.takeWhile (fun g => g.kind != .exit && decide (u + g.pos ≤ wmax))).length

/-- The tag placed in the track under its id, and the next id advanced (R19, R20). -/
def placeNew (t : Tag) (s : State) : State :=
  s.putTrack { s.track with tags := placeTag t s.tags, nextId := nextNumberAfter t.id }

/-- A tag's EXIT crossing, if it is the next and due: handed to the exit and removed (R21, R22, R33). -/
def settleExit (n : Nat) (s : State) : State :=
  match findTag n s.tags with
  | none => s
  | some t =>
    match s.nextGateOf t with
    | some ⟨.exit, _⟩ =>
      if s.isDue t then
        let s := exitTag t s
        s.putTags (dropTag n s.tags)
      else s
    | _ => s

/-- TRACK_FULL and the drop count of a dropped insertion (R38). -/
def dropInsertion (kind : TagKind) (u : Int) (s : State) : State :=
  latch (.trackFull kind u) (s.putTrack { s.track with drops := satInc s.track.drops })

/-- An insertion other than a seam's (R20, R21, R27, R38): the state and the new tag's id, 0 when it was dropped. -/
def insertTag (kind : TagKind) (u : Int) (uEnd : Option Int) (s : State) : State × Nat :=
  if s.tags.length < Config.trackPlaces then
    let n := s.newId
    let t : Tag := ⟨n, kind, u, uEnd, silentIndex s.geom.gates s.web.wmax u⟩
    (settleExit n (placeNew t s), n)
  else (dropInsertion kind u s, 0)

/-- The reference an owner keeps from the track's answer (R28). -/
def refOf (n : Nat) : SpanRef := if n = 0 then .lost else .id n

/-! ### Closing a span (R22) -/

/-- The tag closed at `uEnd`, held at u_start. -/
def Tag.closedAt (t : Tag) (uEnd : Int) : Tag := { t with uEnd := some (max t.uStart uEnd) }

/-- A close by the span's id; one that names no open span changes nothing. -/
def closeSpan (n : Nat) (uEnd : Int) (s : State) : State :=
  match findTag n s.tags with
  | none => s
  | some t => if t.isOpen then settleExit n (s.putTags (mapTag n (·.closedAt uEnd) s.tags)) else s

/-- The close an owner sends for its reference: none for a lost mark (R28). -/
def closeRef (r : SpanRef) (uEnd : Int) (s : State) : State :=
  match r with
  | .id n => closeSpan n uEnd s
  | .none | .lost => s

/-- The planned flag station control gives the track (R18, R105). -/
def setUnplanned (n : Nat) (s : State) : State :=
  s.putTags (mapTag n (fun t =>
    match t.kind with
    | .printGap k _ => { t with kind := .printGap k false }
    | _ => t) s.tags)

/-! ### Eviction (R35, R36) -/

/-- Whether a gate is a CLEAR gate. -/
def GateKind.isClear : GateKind → Bool
  | .clear _ => true
  | _ => false

/-- The tag has crossed the CLEAR gate of every installed station (R35): no CLEAR gate stands at its next-gate index or
after it. -/
def State.pastEveryClear (s : State) (t : Tag) : Bool := (s.geom.gates.drop t.nextGate).all (fun g => !g.kind.isClear)

/-- R35. -/
def State.evictable (s : State) (t : Tag) : Bool := s.pastEveryClear t && !t.isOpen && !t.isRollHead && !t.isBound

/-- One tag evicted (R36). -/
def evictOne (t : Tag) (s : State) : State :=
  latch (.trackFull t.kind t.uStart)
    (s.putTrack { s.track with tags := dropTag t.id s.tags, evictions := satInc s.track.evictions })

/-- The tags that a taken seam evicts, in track order, when places are lacking (R36). -/
def State.evictionList (s : State) : List Tag :=
  (s.tags.filter s.evictable).take (s.tags.length + 2 - Config.trackPlaces)

/-! ### Print gaps as register control reads them (R70) -/

/-- The fabric point u lies in a PRINT_GAP span of station k. -/
def inPrintGap (k : StationIx) (u : Int) (l : List Tag) : Bool :=
  l.any (fun t =>
    match t.kind with
    | .printGap j _ =>
      decide (j = k) && decide (t.uStart ≤ u) && (match t.uEnd with | none => true | some e => decide (u ≤ e))
    | _ => false)

end Sys2Proof.Machine
end

