-- ==== Sys2Proof/Machine/Register.lean ====
section
/-! DEFINITION. Screen register control (spec/04): phase, mark detections, expectations, measurements, trims and the
misregister span of each channel. -/
namespace Sys2Proof.Machine

/-! ### The misregister span (R81 to R84) -/

/-- A channel that finds or follows marks: HUNT, CONFIRM or LOCKED. -/
def ChannelState.measuring : ChannelState → Bool
  | .hunt | .confirm | .locked => true
  | .unused | .reference => false

/-- The misregister condition of a station (R81). -/
def State.misregisterHolds (s : State) (k : StationIx) : Bool :=
  (s.station k).mode == .print && (s.channel k).state.measuring && (s.station k).state == .down
    && ((s.channel k).state != .locked || (s.channel k).outOfTol)

/-- The fabric at the nip of station k now (R82, R103). -/
def State.nipFabric (s : State) (k : StationIx) : Int := s.fabricAt (s.nip k)

/-- The MISREGISTER span of station k opened at u (R82). -/
def openMisregister (k : StationIx) (u : Int) (s : State) : State :=
  let r := insertTag (.misregister k) u none s
  r.1.putChannel k { r.1.channel k with span := refOf r.2 }

/-- The open MISREGISTER span closed at u, or its lost mark cleared (R83). -/
def closeMisregister (k : StationIx) (u : Int) (s : State) : State :=
  let s := closeRef (s.channel k).span u s
  s.putChannel k { s.channel k with span := .none }

/-- The span brought into agreement with the condition: opened at u when the condition holds and none is held, closed
at u when it does not hold and one is held (R82, R83). -/
def judgeMisregister (k : StationIx) (u : Int) (s : State) : State :=
  if s.misregisterHolds k then
    if (s.channel k).span = .none then openMisregister k u s else s
  else
    if (s.channel k).span = .none then s else closeMisregister k u s

/-- The condition judged after a change that is no measurement: at the nip (R82, R83). -/
def judgeAtNip (k : StationIx) (s : State) : State := judgeMisregister k (s.nipFabric k) s

/-! ### Screen phase (R61 to R64) -/

/-- The phase count c (R61). -/
def State.phaseCount (s : State) (k : StationIx) : Nat := ((s.channel k).revolution % (s.counts k : Int)).toNat

/-- The channel back in HUNT, without expectation, misses or flag (R63, R71, R79). -/
def Channel.toHunt (c : Channel) : Channel :=
  { c with state := .hunt, wExp := none, wLast := none, misses := 0, outOfTol := false }

/-- A phase slip found at the count r (R63). -/
def phaseSlip (k : StationIx) (r : Int) (s : State) : State :=
  let c := s.channel k
  if c.state.measuring then
    judgeAtNip k (latch (.phaseSlip k r) (s.putChannel k { c.toHunt with phaseSlips := satInc c.phaseSlips }))
  else if c.state = .reference then
    latch (.phaseSlip k r) (s.putChannel k { c with phaseSlips := satInc c.phaseSlips })
  else s

/-- A screen encoder count (R61, R64). -/
def screenCount (k : StationIx) (dir : Direction) (s : State) : State :=
  let c := s.channel k
  let r := match dir with | .forward => c.revolution + 1 | .reverse => c.revolution - 1
  let bound : Int := (s.counts k : Int) + 2
  if c.referenced && (decide (bound < r) || decide (r < -bound)) then
    phaseSlip k r (s.putChannel k { c with revolution := r, referenced := false })
  else s.putChannel k { c with revolution := r }

/-- r lies within 2 counts of C_k, of 0 or of -C_k (R62). -/
def indexAccepted (r : Int) (counts : Nat) : Bool :=
  (r - counts).natAbs ≤ 2 || r.natAbs ≤ 2 || (r + counts).natAbs ≤ 2

/-- An index pulse (R62): r is tested, and then becomes 0. -/
def indexTaken (k : StationIx) (s : State) : State :=
  let c := s.channel k
  if !c.referenced then s.putChannel k { c with revolution := 0, referenced := true }
  else if indexAccepted c.revolution (s.counts k) then s.putChannel k { c with revolution := 0 }
  else phaseSlip k c.revolution (s.putChannel k { c with revolution := 0 })

/-! ### Expectations (R66, R70, R71) -/

/-- Whether the channel's expectation has expired: W > W_exp + w (R66). -/
def State.expired (s : State) (k : StationIx) : Bool :=
  match (s.channel k).wExp, s.jobFor k with
  | some e, some j => e + j.window < (s.web.w : Int)
  | _, _ => false

/-- The channel loses its lock by misses (R71). -/
def loseLock (k : StationIx) (s : State) : State :=
  let c := s.channel k
  judgeAtNip k (latch (.lockLost k s.web.w) (s.putChannel k { c.toHunt with lockLosses := satInc c.lockLosses }))

/-- An expiry in LOCKED of the expectation e under job j (R70, R71).  A channel kept over a changeover (R122) whose misses already stand
at or above the new job's smaller limit loses its lock here, at its next counted miss, and not at the switch (DESIGN CHOICE, log
entry 30). -/
def missMark (k : StationIx) (e : Int) (j : Job) (s : State) : State :=
  let c := s.channel k
  if inPrintGap j.reference (e - s.markPos k) s.tags then s.putChannel k { c with wExp := some (e + j.rpt) }
  else
    let s := s.putChannel k { c with wExp := some (e + j.rpt), misses := c.misses + 1 }
    if j.missLimit ≤ c.misses + 1 then loseLock k s else s

/-- The expiry of the channel's expectation, if it has expired (R66, R68, R70). -/
def expireMark (k : StationIx) (s : State) : State :=
  if s.expired k then
    let c := s.channel k
    match c.state, c.wExp, s.jobFor k with
    | .confirm, _, _ => s.putChannel k { c with state := .hunt, wExp := none }
    | .locked, some e, some j => missMark k e j s
    | _, _, _ => s
  else s

/-! ### Measurements and trims (R73 to R76) -/

/-- The register error from the predicted phase and the offset, normalised into (-R/2, R/2] (R74). -/
def registerError (rpt : Nat) (phiP : Nat) (offset : Int) : Int :=
  let diff : Int := phiP - offset % rpt
  if (rpt : Int) / 2 < diff then diff - rpt else if diff ≤ -((rpt : Int) / 2) then diff + rpt else diff

/-- The predicted phase φ_p from the captured phase, the distance d_k and the stretch trim (R73). -/
def predictedPhase (rpt : Nat) (phiM : Nat) (d : Int) (stretch : Int) : Nat :=
  ((phiM + d + d * stretch / 100000) % rpt).toNat

/-- The trim value T: -(e × G / 16) rounded half away from zero, clamped to ±T_max (R75 steps 2 and 3). -/
def trimValue (e : Int) (gain trimLimit : Nat) : Int :=
  let m : Nat := min ((e.natAbs * gain + 8) / 16) trimLimit
  if 0 < e then -(m : Int) else m

/-- The measurement of R73 to R75 at a detection captured as (W_m, c_m).  With a trim in flight the outcome is HELD, and an overrun
is counted, only where R75 comes to its step 5: a measurement in the dead band, or with a trim that rounds to 0, keeps DEAD_BAND
or NO_STEP, although R78 names HELD for every measurement in a flight (DEDUCED, log entry 27). -/
def computeMeasurement (j : Job) (e : JobEntry) (d : Int) (counts wm cm : Nat) (inFlight : Bool) : Measurement :=
  let phiM := cm * j.rpt / counts
  let phiP := predictedPhase j.rpt phiM d e.stretch
  let err := registerError j.rpt phiP e.offset
  let t := if err.natAbs ≤ j.deadBand then 0 else trimValue err j.gain j.trimLimit
  let outcome : MeasureOutcome :=
    if err.natAbs ≤ j.deadBand then .deadBand
    else if t = 0 then .noStep
    else if inFlight then .held
    else .issued
  ⟨wm, cm, phiM, phiP, err, t, outcome⟩

/-- The trim number after `n`: 255 is followed by 1 (R76). -/
def trimNumberAfter (n : Nat) : Nat := if n < 255 then n + 1 else 1

/-- The channel after a measurement: record, flag, overrun count and issued trim (R75, R76, R78). -/
def Channel.measured (c : Channel) (m : Measurement) (tolerance trimTimeout w : Nat) : Channel :=
  let c := { c with lastMeas := some m, outOfTol := decide (tolerance < m.error.natAbs) }
  match m.outcome with
  | .deadBand | .noStep => c
  | .held => { c with overruns := satInc c.overruns }
  | .issued =>
    { c with
      flight := some ⟨c.nextTrim, m.trim, w⟩
      trimTimer := some trimTimeout
      nextTrim := trimNumberAfter c.nextTrim
      trims := satInc c.trims }

/-- A measurement at a detection taken in its window, and the misregister span judged at the fabric the mark sensor
read (R75, R82, R83). -/
def measure (k : StationIx) (j : Job) (wm cm : Nat) (s : State) : State :=
  let c := s.channel k
  let d : Int := (s.nip k : Int) - s.markPos k
  let m := computeMeasurement j j.entries[k] d (s.counts k) wm cm c.flight.isSome
  let timeout := s.geo (fun g => g.stations[k].trimTimeout)
  judgeMisregister k ((wm : Int) - s.markPos k) (s.putChannel k (c.measured m j.entries[k].tolerance timeout s.web.w))

/-- The channel after a detection in its window (R68, R69). -/
def Channel.inWindow (c : Channel) (wm rpt : Nat) : Channel :=
  { c with state := .locked, wLast := some wm, wExp := some ((wm : Int) + rpt), misses := 0 }

/-- A taken detection acts by the channel's state (R67, R68, R69). -/
def judgeMark (k : StationIx) (s : State) : State :=
  let c := s.channel k
  let wm := s.web.w
  match s.jobFor k with
  | none => s
  | some j =>
    match c.state, c.wExp with
    | .hunt, _ => s.putChannel k { c with state := .confirm, wExp := some ((wm : Int) + j.rpt) }
    | .confirm, some e =>
      if ((wm : Int) - e).natAbs ≤ j.window then measure k j wm (s.phaseCount k) (s.putChannel k (c.inWindow wm j.rpt))
      else s.putChannel k { c with wExp := some ((wm : Int) + j.rpt), strays := satInc c.strays }
    | .locked, some e =>
      if ((wm : Int) - e).natAbs ≤ j.window then measure k j wm (s.phaseCount k) (s.putChannel k (c.inWindow wm j.rpt))
      else s.putChannel k { c with strays := satInc c.strays }
    | _, _ => s

/-- The conditions under which a mark detection is taken (R65). -/
def State.markTaken (s : State) (k : StationIx) : Bool :=
  s.installed k && (s.channel k).state.measuring && s.web.direction == .forward && s.web.deficit == 0
    && (s.channel k).referenced

/-- A mark detection (R65): an expiry not yet taken is taken first. -/
def markSeen (k : StationIx) (s : State) : State :=
  if s.markTaken k then judgeMark k (expireMark k s) else s

/-- A trim done (R77). -/
def trimDoneSeen (k : StationIx) (number : Nat) (s : State) : State :=
  let c := s.channel k
  match c.flight with
  | some f => if f.number = number then s.putChannel k { c with flight := none, trimTimer := none } else s
  | none => s

/-- The trim timer's expiry (R79). -/
def trimExpired (k : StationIx) (s : State) : State :=
  let c := s.channel k
  match c.flight with
  | none => s
  | some f =>
    let c := if c.state.measuring then c.toHunt else c
    judgeAtNip k (latch (.trimTimeout k f.number f.trim)
      (s.putChannel k { c with flight := none, trimTimer := none, trimTimeouts := satInc c.trimTimeouts }))

/-! ### Flushing (R60) -/

/-- The state a channel takes from the job in force (R60). -/
def flushedState (k : StationIx) (job : Option Job) (mode : Mode) : ChannelState :=
  match job, mode with
  | none, _ | _, .off => .unused
  | some j, .print | some j, .idle =>
    if k = j.reference then .reference else if j.reference.val < k.val then .hunt else .unused

/-- A channel flushed to a state (R60). -/
def Channel.flushed (c : Channel) (state : ChannelState) : Channel :=
  { c with state := state, wExp := none, wLast := none, misses := 0, outOfTol := false }

/-- The channel of station k flushed under its job in force, and its span judged (R60, R83). -/
def flushChannel (k : StationIx) (s : State) : State :=
  judgeAtNip k (s.putChannel k ((s.channel k).flushed (flushedState k (s.jobFor k) (s.station k).mode)))

/-- The channel at its station's switch (R84, R121, R122): the open span is closed first, then the channel is kept or
flushed, its flag is cleared, and the condition is judged afresh. -/
def switchChannel (k : StationIx) (keep : Bool) (s : State) : State :=
  let u := s.nipFabric k
  let s := if (s.channel k).span = .none then s else closeMisregister k u s
  let c := s.channel k
  let c := if keep then { c with outOfTol := false } else c.flushed (flushedState k (s.jobFor k) (s.station k).mode)
  judgeMisregister k u (s.putChannel k c)

/-! ### The hunt condition (R85) -/

/-- At least one station in PRINT mode has a channel in HUNT or CONFIRM (R85). -/
def State.huntCondition (s : State) : Bool :=
  allStations.any (fun k => (s.station k).mode == .print
    && ((s.channel k).state == .hunt || (s.channel k).state == .confirm))

/-! ### A track reset (R86) -/

/-- The channel's expectations carried into the new coordinates, its span reference dropped (R84, R86). -/
def Channel.shifted (c : Channel) (delta : Int) : Channel :=
  { c with wExp := c.wExp.map (· - delta), wLast := c.wLast.map (· - delta), span := .none }

end Sys2Proof.Machine
end

