-- ==== Sys2Proof/Machine/Trips.lean ====
section
/-! DEFINITION. A trip request at the speed governor (R157, R158, R159), sent by web measure, the tag track, station
control and the governor's own points. -/
namespace Sys2Proof.Machine

/-- The state that a trip request brings the governor to (R158); a governor that enters TRIPPING with its demand
already 0 enters TRIPPED at that moment (R159). -/
def GovState.afterTrip (g : GovState) (c : TripCause) (demand : Nat) : GovState :=
  match g with
  | .run | .halting | .jog => if c = .estop ∨ demand = 0 then .tripped else .tripping
  | .halt => .tripped
  | .tripping => if c = .estop then .tripped else .tripping
  | .tripped => .tripped

/-- Whether a trip request in this state is an entry that the trip count counts (R158). -/
def GovState.tripEntry : GovState → Bool
  | .run | .halting | .jog | .halt => true
  | .tripping | .tripped => false

/-- The governor after a trip request (R158).  On the entry the limit is 0 with term STOP, as the example of section
8.7 shows (DEDUCED, log entry 11). -/
def Governor.tripped (g : Governor) (c : TripCause) : Governor :=
  { g with
    state := g.state.afterTrip c g.demand
    demand := if c = .estop then 0 else g.demand
    causes := g.causes.insert c
    tripCount := if g.state.tripEntry then satInc g.tripCount else g.tripCount
    limit := if g.state.tripEntry then 0 else g.limit
    term := if g.state.tripEntry then .stop else g.term
    jogTimer := if g.state = .jog then none else g.jogTimer
    jogDirection := if g.state = .jog then none else g.jogDirection
    reversalPending := if g.state = .jog then false else g.reversalPending }

/-- A trip request with one cause: the cause joins the set, and TRIP is latched when it was not already there (R158). -/
def requestTrip (c : TripCause) (s : State) : State :=
  let s' := s.putGov (s.gov.tripped c)
  if s.gov.causes.has c then s' else latch (.trip (s.gov.causes.insert c)) s'

end Sys2Proof.Machine
end

