-- ==== Sys2Proof/Machine/Stations.lean ====
section
/-! DEFINITION. Station control (spec/05): the lift-reason set, the state machine, seams at a station, print gaps, and the
points of a station.  A change of station state is followed by the print gap's judgement (R103, R104) and then by the
misregister span's (R81); the order of these two is the model's (DESIGN CHOICE, log entry 19). -/
namespace Sys2Proof.Machine

/-! ### Print gaps (R103 to R105) -/

/-- The print-gap condition of an installed station (R103). -/
def State.gapHolds (s : State) (k : StationIx) : Bool :=
  s.installed k && (s.station k).mode == .print && (s.station k).hasPrinted && (s.station k).state != .down

/-- The planned flag judged on the set (R105): with any reason other than SEAM present while a gap is open, the gap is
unplanned, and the track is told when it holds the span. -/
def judgePlanned (k : StationIx) (s : State) : State :=
  let st := s.station k
  if st.reasons.unplanned then
    match st.gap with
    | .none => s
    | .id n => setUnplanned n (s.putStation k { st with gapPlanned := false })
    | .lost => s.putStation k { st with gapPlanned := false }
  else s

/-- The print gap opened at the nip (R103), planned, and judged at once by R105. -/
def openGap (k : StationIx) (s : State) : State :=
  let r := insertTag (.printGap k true) (s.nipFabric k) none s
  judgePlanned k (r.1.putStation k { r.1.station k with gap := refOf r.2, gapPlanned := true })

/-- The print gap closed at the nip, or its lost mark cleared (R104). -/
def closeGap (k : StationIx) (s : State) : State :=
  let s := closeRef (s.station k).gap (s.nipFabric k) s
  s.putStation k { s.station k with gap := .none }

/-- The gap brought into agreement with the condition (R103, R104). -/
def judgeGap (k : StationIx) (s : State) : State :=
  if s.gapHolds k then
    if (s.station k).gap = .none then openGap k s else s
  else
    if (s.station k).gap = .none then s else closeGap k s

/-- What follows a change of the station's state: the print gap and the misregister span are judged. -/
def settleSpans (k : StationIx) (s : State) : State := judgeAtNip k (judgeGap k s)

/-! ### The state machine (R92 to R98) -/

/-- The end points agree with the lowering stroke (R95). -/
def State.loweredEnds (s : State) (k : StationIx) : Bool := s.downTrue k && !s.upTrue k

/-- The end points agree with the raising stroke (R95). -/
def State.raisedEnds (s : State) (k : StationIx) : Bool := s.upTrue k && !s.downTrue k

/-- The lowering stroke completes (R95). -/
def arriveDown (k : StationIx) (s : State) : State :=
  settleSpans k (s.putStation k { s.station k with state := .down, lowerTimer := none, hasPrinted := true })

/-- A station in UP whose set is empty enters LOWERING (R93); the stroke is tested on entry (R95). -/
def enterLowering (k : StationIx) (s : State) : State :=
  let timeout := s.geo (fun g => g.stations[k].lowerTimeout)
  let s := s.putStation k { s.station k with state := .lowering, lowerOutput := true, lowerTimer := some timeout }
  if s.loweredEnds k then arriveDown k s else s

/-- The raising stroke completes: UP, then LOWERING at once if the set is empty (R95, R93). -/
def arriveUp (k : StationIx) (s : State) : State :=
  let s := s.putStation k { s.station k with state := .up, raiseTimer := none }
  if (s.station k).reasons.isEmpty then enterLowering k s else s

/-- The station enters RAISING (R92, R98, R99, R112); the spans are judged and the stroke is tested on entry (R95). -/
def enterRaising (k : StationIx) (s : State) : State :=
  let timeout := s.geo (fun g => g.stations[k].raiseTimeout)
  let s := settleSpans k (s.putStation k
    { s.station k with state := .raising, lowerOutput := false, lowerTimer := none, raiseTimer := some timeout })
  if s.raisedEnds k then arriveUp k s else s

/-- The station unit at an entry to STUCK (R94). -/
def Station.stuckWith (st : Station) (c : StuckCause) : Station :=
  { st with
    state := .stuck
    lowerOutput := false
    lowerTimer := none
    raiseTimer := none
    reasons := st.reasons.set .fault true
    stuckCause := some c
    stuckCount := satInc st.stuckCount }

/-- An entry to STUCK (R94); a station already in STUCK stays as it is. -/
def enterStuck (k : StationIx) (c : StuckCause) (s : State) : State :=
  if (s.station k).state = .stuck then s
  else
    let s := latch (.stationStuck k c) (s.putStation k ((s.station k).stuckWith c))
    settleSpans k (judgePlanned k s)

/-- The state machine judged on the set as it stands (R92, R93). -/
def judgeStation (k : StationIx) (s : State) : State :=
  let st := s.station k
  match st.state, st.reasons.isEmpty with
  | .lowering, false | .down, false => enterRaising k s
  | .up, true => enterLowering k s
  | _, _ => s

/-- The set of station k changed by one event: every change is applied, the planned flag of an open gap is judged, and
the state machine is judged once (R91). -/
def changeReasons (k : StationIx) (f : LiftSet → LiftSet) (s : State) : State :=
  judgeStation k (judgePlanned k (s.putStation k { s.station k with reasons := f (s.station k).reasons }))

/-- One reason present or absent. -/
def setReason (k : StationIx) (x : LiftReason) (b : Bool) (s : State) : State := changeReasons k (·.set x b) s

/-- The stroke test at a change of an end point (R95). -/
def testStroke (k : StationIx) (s : State) : State :=
  match (s.station k).state with
  | .lowering => if s.loweredEnds k then arriveDown k s else s
  | .raising => if s.raisedEnds k then arriveUp k s else s
  | .up | .down | .stuck => s

/-! ### Points of a station (R95, R98, R108) -/

/-- A debounced change of DOWN (R95, R98). -/
def downChanged (k : StationIx) (v : Bool) (s : State) : State :=
  if s.downTrue k && s.upTrue k then enterStuck k .bothEnds s
  else if !v && (s.station k).state == .down then enterStuck k .downLost s
  else testStroke k s

/-- A debounced change of UP (R95, R98). -/
def upChanged (k : StationIx) (v : Bool) (s : State) : State :=
  if s.downTrue k && s.upTrue k then enterStuck k .bothEnds s
  else if !v && (s.station k).state == .up then enterRaising k s
  else testStroke k s

/-- A debounced change of GUARD_CLOSED (R91, R108). -/
def guardChanged (k : StationIx) (v : Bool) (s : State) : State :=
  let s := if !v && (s.gov.state == .run || s.gov.state == .jog) then requestTrip .guard s else s
  setReason k .guard (!v) s

/-- A debounced change of point n of station k, taken by an installed station (R89, R91, R108). -/
def stationPointChanged (k : StationIx) (n : Fin 6) (v : Bool) (s : State) : State :=
  if s.installed k then
    match n with
    | 0 => downChanged k v s
    | 1 => upChanged k v s
    | 2 => setReason k .drive (!v) s
    | 3 => guardChanged k v s
    | 4 => if v then latch (.pasteLow k) s else s
    | 5 => setReason k .paste v s
  else s

/-- The guard request on an entry to RUN or JOG with a guard open at an installed station (R108). -/
def guardOnEntry (s : State) : State :=
  if s.installedStations.any (fun k => !s.guardClosed k) then requestTrip .guard s else s

/-! ### Timers (R96, R97) -/

/-- The lower timer expires (R96). -/
def lowerExpired (k : StationIx) (s : State) : State :=
  let st := s.station k
  if st.state = .lowering ∧ st.lowerTimer.isSome then enterStuck k .lowerTimeout s else s

/-- The raise timer expires (R97). -/
def raiseExpired (k : StationIx) (s : State) : State :=
  let st := s.station k
  if st.state = .raising ∧ st.raiseTimer.isSome then requestTrip .raiseFail (enterStuck k .raiseTimeout s) else s

/-! ### Seams (R100, R101) -/

/-- A SEAM crosses LIFT_k (R100). -/
def seamLift (k : StationIx) (s : State) : State :=
  let st := s.station k
  let s := s.putStation k { st with hold := st.hold + 1 }
  if st.hold = 0 then setReason k .seam true s else s

/-- A SEAM crosses CLEAR_k (R100). -/
def seamClear (k : StationIx) (s : State) : State :=
  let st := s.station k
  let s := s.putStation k { st with hold := st.hold - 1 }
  if st.hold = 1 then setReason k .seam false s else s

/-- A SEAM at u crosses NIP_k (R101). -/
def seamNip (k : StationIx) (u : Int) (s : State) : State :=
  let st := s.station k
  match st.state with
  | .lowering | .down | .raising =>
    enterStuck k .seamStrike
      (requestTrip .seamStrike
        (latch (.seamStrike k u) (s.putStation k { st with strikeCount := satInc st.strikeCount })))
  | .up | .stuck => s

/-! ### Modes (R90, R106) -/

/-- The set after a change of mode: JOB_IDLE joins or leaves, and OPERATOR leaves when the mode becomes OFF (R90, R91). -/
def LiftSet.forMode (r : LiftSet) (m : Mode) : LiftSet :=
  { r with jobIdle := m != .print, operator := r.operator && m != .off }

/-- A station takes a mode, a slot in force and a has-printed flag: an open gap closes first when its condition ends
with the change (R104, and the example of section 6.11, in which such a gap stays planned), then the set is changed and
judged (R90, R91). -/
def takeMode (k : StationIx) (m : Mode) (slot : Option SlotIx) (printed : Bool) (s : State) : State :=
  let s := s.putStation k { s.station k with mode := m, slot := slot, hasPrinted := printed }
  let s := judgeAtNip k (judgeGap k s)
  changeReasons k (·.forMode m) s

/-- The number of SEAM tags that have crossed LIFT_k but not CLEAR_k, from the track (R102). -/
def State.seamsUnder (s : State) (k : StationIx) : Nat :=
  let gates := s.geom.gates
  let lift := (gates.takeWhile (fun g => g.kind != .lift k)).length
  let clear := (gates.takeWhile (fun g => g.kind != .clear k)).length
  (s.tags.filter (fun t => (match t.kind with | .seam _ => true | _ => false)
    && decide (lift < t.nextGate) && decide (t.nextGate ≤ clear))).length

/-! ### Taking up the points (R112) -/

/-- An installed station, which is UP, reads its six debounced points (R112). -/
def takeUpPoints (k : StationIx) (s : State) : State :=
  if s.installed k then
    let s := changeReasons k
      (fun r => { r with drive := !s.driveReady k, guard := !s.guardClosed k, paste := s.pasteEmpty k }) s
    if s.downTrue k && s.upTrue k then enterStuck k .bothEnds s
    else if (s.station k).state == .up && !s.upTrue k then enterRaising k s
    else s
  else s

/-! ### Requests to a station (R99, R109, R110) -/

/-- Clear Station Fault on a station in STUCK (R99 step 5). -/
def leaveStuck (k : StationIx) (s : State) : State :=
  let st := s.station k
  let s := judgePlanned k (s.putStation k { st with reasons := st.reasons.set .fault false, stuckCause := none })
  if s.raisedEnds k then arriveUp k s else enterRaising k s

end Sys2Proof.Machine
end

