-- ==== Sys2Proof/Machine/Governor.lean ====
section
/-! DEFINITION. The line speed governor (spec/08, R147 to R162): the update, the jog, the points it reads, and what its requests
do once their checks have passed. -/
namespace Sys2Proof.Machine

/-! ### The limit (R149) -/

/-- The smallest term, the first of equals (R149). -/
def smallestTerm (first : Nat × LimitTerm) (rest : List (Nat × LimitTerm)) : Nat × LimitTerm :=
  rest.foldl (fun best t => if t.1 < best.1 then t else best) first

/-- The terms as they stand now (R149, R161). -/
def State.termsNow (s : State) : LimitTerms where
  maxSpeed := s.maxSpeedInForce
  cure := if s.oven.operating then s.oven.cureLimit else none
  huntSpeed := s.huntSpeedInForce
  huntHeld := s.huntCondition

/-- The terms that apply beside the target, in the order of R149's table. -/
def LimitTerms.list (t : LimitTerms) : List (Nat × LimitTerm) :=
  (match t.maxSpeed with | some v => [(v, .maxSpeed)] | none => [])
  ++ (match t.cure with | some v => [(v, .cure)] | none => [])
  ++ (match t.huntHeld, t.huntSpeed with | true, some v => [(v, .hunt)] | _, _ => [])

/-- The limit and its term at an update in RUN (R149). -/
def LimitTerms.limit (t : LimitTerms) (target : Nat) : Nat × LimitTerm := smallestTerm (target, .target) t.list

/-- The limit and its term at an update in JOG (R149). -/
def Governor.jogLimit (g : Governor) (jogSpeed : Nat) : Nat × LimitTerm :=
  if g.jogTimer.isSome && !g.reversalPending && 0 < jogSpeed then (jogSpeed, .jog) else (0, .stop)

/-- The governor with the limit of an update set (R149, R161). -/
def Governor.withLimit (g : Governor) (now : LimitTerms) (jogSpeed : Nat) : Governor :=
  match g.state with
  | .run => { g with limit := (now.limit g.target).1, term := (now.limit g.target).2, terms := now }
  | .jog => { g with limit := (g.jogLimit jogSpeed).1, term := (g.jogLimit jogSpeed).2 }
  | .halting | .tripping | .halt | .tripped => { g with limit := 0, term := .stop }

/-! ### The step (R150, R159) -/

/-- A step of a rate in 0.01 m/min per s: floor(rate × 10 / 1,000), and 1 when that gives 0 (R150, R159). -/
def stepOf (rate : Nat) : Nat := max 1 (rate * 10 / 1000)

/-- The demand one step nearer the limit (R150). -/
def moveDemand (demand limit rising falling : Nat) : Nat :=
  if demand < limit then demand + min rising (limit - demand)
  else demand - min falling (demand - limit)

/-- The governor with its demand moved (R150, R159). -/
def Governor.stepped (g : Governor) (rising falling trip : Nat) : Governor :=
  match g.state with
  | .run | .halting | .jog => { g with demand := moveDemand g.demand g.limit rising falling }
  | .tripping => { g with demand := g.demand - trip }
  | .halt | .tripped => g

/-- What an update does when the demand is 0 (R153, R156, R159). -/
def Governor.atRest (g : Governor) : Governor :=
  if g.demand = 0 then
    match g.state with
    | .halting => { g with state := .halt }
    | .tripping => { g with state := .tripped }
    | .jog =>
      if g.reversalPending then
        { g with direction := g.jogDirection.getD g.direction, reversalPending := false }
      else if g.jogTimer.isNone then { g with state := .halt, jogDirection := none }
      else g
    | .run | .halt | .tripped => g
  else g

/-- The governor after an update (R149). -/
def Governor.updated (g : Governor) (now : LimitTerms) (jogSpeed rising falling trip : Nat) : Governor :=
  ((g.withLimit now jogSpeed).stepped rising falling trip).atRest

/-- An update (R149). -/
def governorUpdated (s : State) : State :=
  s.putGov (s.gov.updated s.termsNow (s.geo (·.jogSpeed)) (stepOf (s.geo (·.acceleration)))
    (stepOf (s.geo (·.deceleration))) (stepOf (s.geo (·.tripDeceleration))))

/-! ### Running and halting (R151, R153, R154) -/

/-- RUN left for HALTING, or for HALT with the demand already 0 (R153). -/
def Governor.enterHalting (g : Governor) : Governor := { g with state := if g.demand = 0 then .halt else .halting }

/-- A fall of BATCHER_READY (R154). -/
def Governor.batcherFell (g : Governor) : Governor :=
  match g.state with
  | .run => { g.enterHalting with target := 0 }
  | .halt | .halting | .jog | .tripping | .tripped => g

/-- An accepted Run from HALT (R151), and the guard request on the entry (R108). -/
def enterRun (s : State) : State := guardOnEntry (s.putGov { s.gov with state := .run, direction := .forward })

/-! ### Jog (R155, R156) -/

/-- The wind-down (R156): the timer stops, the limit becomes 0 and a pending reversal is discarded; with the demand already
0 the governor enters HALT at once (R148, R155; DEDUCED, log entry 23). -/
def Governor.windDown (g : Governor) : Governor :=
  match g.state with
  | .jog =>
    { g with
      state := if g.demand = 0 then .halt else .jog
      jogTimer := none
      limit := 0
      term := .stop
      jogDirection := if g.demand = 0 then none else some (if g.reversalPending then g.direction else g.jogDirection.getD g.direction)
      reversalPending := false }
  | .run | .halt | .halting | .tripping | .tripped => g

/-- The governor after a Halt (R153). -/
def Governor.halted (g : Governor) : Governor :=
  match g.state with
  | .run => g.enterHalting
  | .jog => g.windDown
  | .halt | .halting | .tripping | .tripped => g

/-- The jog timer's expiry (R156). -/
def Governor.jogExpired (g : Governor) : Governor := if g.jogTimer.isSome then g.windDown else g

/-- The governor after a jog accepted from HALT (R155). -/
def Governor.jogEntered (g : Governor) (dir : Direction) (ms : Nat) : Governor :=
  { g with state := .jog, direction := dir, jogDirection := some dir, reversalPending := false, jogTimer := some ms }

/-- The governor after a renewal in JOG (R156). -/
def Governor.jogRenewed (g : Governor) (dir : Direction) (ms : Nat) : Governor :=
  if g.jogDirection = some dir then { g with jogTimer := some ms }
  else if g.demand = 0 then
    { g with jogTimer := some ms, jogDirection := some dir, direction := dir, reversalPending := false }
  else { g with jogTimer := some ms, jogDirection := some dir, reversalPending := dir != g.direction }

/-- A timer started with 0 ms has already expired (R155). -/
def Governor.expireAtOnce (g : Governor) : Governor := if g.jogTimer = some 0 then g.jogExpired else g

/-- An accepted Jog (R155, R156), and the guard request on an entry to JOG (R108). -/
def takeJog (dir : Direction) (ms : Nat) (s : State) : State :=
  let s := match s.gov.state with
    | .halt => guardOnEntry (s.putGov (s.gov.jogEntered dir ms))
    | .run | .halting | .jog | .tripping | .tripped => s.putGov (s.gov.jogRenewed dir ms)
  s.putGov s.gov.expireAtOnce

/-! ### Clear Trip (R160) -/

/-- An accepted Clear Trip (R160). -/
def Governor.cleared (g : Governor) : Governor := { g with state := .halt, causes := TripSet.empty }

/-! ### Points (R154, R157) -/

/-- A delivered change of ESTOP_CHAIN_OK (R157). -/
def estopChanged (v : Bool) (s : State) : State := if v then s else requestTrip .estop s

/-- A delivered change of MAIN_DRIVE_READY (R157). -/
def mainDriveChanged (v : Bool) (s : State) : State :=
  if v then s
  else match s.gov.state with
    | .run | .halting | .jog | .tripping => requestTrip .mainDrive s
    | .halt | .tripped => s

/-- A delivered change of BATCHER_READY (R154). -/
def batcherChanged (v : Bool) (s : State) : State := if v then s else s.putGov s.gov.batcherFell

/-- The governor reads ESTOP_CHAIN_OK at the end of STARTING (R157). -/
def takeUpEstop (s : State) : State := if s.debounced estopPoint then s else requestTrip .estop s

end Sys2Proof.Machine
end

