-- ==== Sys2Proof/Machine/Oven.lean ====
section
/-! DEFINITION. Oven and cure supervision (spec/07): the cure limit (R135), zone band spans (R137, R138), the overspeed
watch (R139, R140), the halt dwell (R142 to R144) and a track reset (R145). -/
namespace Sys2Proof.Machine

/-! ### The cure limit (R135, R136) -/

/-- v_cure for an oven length and a dwell in force (R135). -/
def cureLimitOf (length dwell : Nat) : Nat := min 20000 (length * 6 / (100 * dwell))

/-- The overspeed threshold (R135). -/
def thresholdOf (cure : Nat) : Nat := cure * 102 / 100

/-- O_out - O_in of the working geometry. -/
def State.ovenLength (s : State) : Nat := s.geo (fun g => g.ovenOut - g.ovenIn)

/-- Supervision takes the dwell in force offered and recomputes its limit and threshold (R135, R136). -/
def takeDwell (s : State) : State :=
  if s.oven.operating then
    match s.dwellInForce with
    | some d =>
      let v := cureLimitOf s.ovenLength d
      s.putOven { s.oven with dwell := some d, cureLimit := some v, threshold := some (thresholdOf v) }
    | none => s.putOven { s.oven with dwell := none, cureLimit := none, threshold := none }
  else s

/-! ### Zone spans (R137, R138) -/

/-- The zones of the working geometry. -/
def State.zones (s : State) : List ZoneIx :=
  match s.geom.working with
  | some g => g.zones
  | none => []

/-- z_n of the working geometry. -/
def State.zoneEnd (s : State) (n : ZoneIx) : Nat := s.geo (·.zoneEnd n)

/-- z_{n-1} of the working geometry. -/
def State.zoneEntry (s : State) (n : ZoneIx) : Nat := s.geo (·.zoneEntry n)

def putZoneSpan (n : ZoneIx) (r : SpanRef) (s : State) : State :=
  s.putOven { s.oven with zoneSpans := s.oven.zoneSpans.set n.val r n.isLt }

/-- A zone span opened at the zone's exit, with UNDERCURE_OPEN latched (R137, R141). -/
def openZone (n : ZoneIx) (s : State) : State :=
  let r := insertTag (.undercure (.zone n)) (s.fabricAt (s.zoneEnd n)) none s
  latch (.undercureOpen (.zone n)) (putZoneSpan n (refOf r.2) r.1)

/-- A zone span closed at the zone's entry, or its lost mark cleared (R138). -/
def closeZone (n : ZoneIx) (s : State) : State :=
  putZoneSpan n .none (closeRef s.oven.zoneSpans[n] (s.fabricAt (s.zoneEntry n)) s)

/-- A delivered change of ZONE_n_BAND (R137, R138). -/
def bandChanged (n : ZoneIx) (v : Bool) (s : State) : State :=
  let s := s.putOven { s.oven with bandIn := s.oven.bandIn.set n.val v n.isLt }
  if s.oven.operating then
    if v then
      if s.oven.zoneSpans[n] = .none then s else closeZone n s
    else
      if n ∈ s.zones ∧ s.oven.zoneSpans[n] = .none then openZone n s else s
  else s

/-- The band states taken from the points at the end of STARTING (R137, R146). -/
def takeUpBands (s : State) : State :=
  s.putOven { s.oven with bandIn := Vector.ofFn fun n => s.debounced (zonePoint n) }

/-- Every zone out of band has its span opened (R133 step 4, R145 step 1). -/
def openOutZones (s : State) : State :=
  (s.zones.filter (fun n => !s.oven.bandIn[n])).foldl (fun s n => openZone n s) s

/-! ### The overspeed watch (R139, R140) -/

/-- The speed span opened at u, with UNDERCURE_OPEN latched; the watch is OPEN (R140, R141). -/
def openSpeed (u : Int) (s : State) : State :=
  let r := insertTag (.undercure .speed) u none s
  latch (.undercureOpen .speed)
    (r.1.putOven { r.1.oven with speedSpan := refOf r.2, watch := .opened, excessStart := none, persistence := none })

/-- The speed span closed at the oven entry, or its lost mark cleared (R140). -/
def closeSpeed (s : State) : State :=
  let s := closeRef s.oven.speedSpan (s.fabricAt (s.geo (·.ovenIn))) s
  s.putOven { s.oven with speedSpan := .none }

/-- The watch back in CLEAR. -/
def clearWatch (s : State) : State :=
  s.putOven { s.oven with watch := .clear, excessStart := none, persistence := none }

/-- Whether the measured speed is above the overspeed threshold (R139). -/
def State.excess (s : State) : Bool :=
  match s.oven.threshold with
  | some t => t < s.web.measuredSpeed
  | none => false

/-- The overspeed watch at a recompute of measured speed (R139). -/
def overspeedCheck (s : State) : State :=
  match s.oven.watch, s.excess with
  | .clear, true =>
    s.putOven { s.oven with watch := .timing, excessStart := some s.front, persistence := some Config.persistenceMs }
  | .timing, false => clearWatch s
  | .opened, false => clearWatch (closeSpeed s)
  | .clear, false | .timing, true | .opened, true => s

/-- The persistence timer's expiry (R140). -/
def persistenceExpired (s : State) : State :=
  match s.oven.watch, s.oven.excessStart with
  | .timing, some w0 => if s.oven.operating then openSpeed (w0 - s.geo (·.ovenOut)) s else s
  | _, _ => s

/-! ### The halt dwell (R142 to R144) -/

/-- The halt dwell expires (R143). -/
def haltExpired (s : State) : State :=
  let u := s.fabricAt (s.geo (·.ovenOut))
  let r := insertTag .overcure u (some (s.fabricAt (s.geo (·.ovenIn)))) s
  latch (.overcure u r.2) (r.1.putOven { r.1.oven with haltTimer := none, haltMark := some r.1.front })

/-- The halt timer at a recompute of measured speed (R142). -/
def haltCheck (s : State) : State :=
  let h := s.haltDwellInForce.getD 0
  if s.web.measuredSpeed = 0 ∧ 0 < h ∧ s.oven.haltMark = none then
    match s.oven.haltTimer with
    | none => s.putOven { s.oven with haltTimer := some 0 }
    | some t =>
      let s := s.putOven { s.oven with haltTimer := some (t + 10) }
      if h * 100 ≤ t + 10 then haltExpired s else s
  else s.putOven { s.oven with haltTimer := none }

/-- Supervision at a recompute of measured speed (R139, R142). -/
def ovenRecompute (s : State) : State := if s.oven.operating then haltCheck (overspeedCheck s) else s

/-- The halt spent mark at an advance of W (R144). -/
def clearHaltMark (s : State) : State :=
  match s.oven.haltMark with
  | some m => if m + 1000 ≤ s.front then s.putOven { s.oven with haltMark := none } else s
  | none => s

/-! ### Start and end of supervision (R133, R134) -/

/-- Supervision begins to operate at an accepted Start Job (R133). -/
def startSupervision (s : State) : State :=
  if 1 ≤ s.geo (·.zoneCount) then
    let s := takeDwell (s.putOven { s.oven with operating := true })
    let s := clearWatch s
    openOutZones (s.putOven { s.oven with haltMark := none, haltTimer := none })
  else s

/-- The zone spans closed at End Job (R134 step 1), zone 1 first (DESIGN CHOICE, log entry 19: R134 gives no order among the
zones). -/
def closeZones (s : State) : State :=
  allZones.foldl (fun s n => if s.oven.zoneSpans[n] = .none then s else closeZone n s) s

/-- Supervision ends at an accepted End Job (R134). -/
def endSupervision (s : State) : State :=
  if s.oven.operating then
    let s := closeZones s
    let s := if s.oven.watch = .opened then closeSpeed s else s
    let s := clearWatch s
    s.putOven { s.oven with
      haltTimer := none, haltMark := none, dwell := none, cureLimit := none, threshold := none, operating := false }
  else s

/-! ### A track reset (R145) -/

/-- Supervision's references and lost marks dropped, W_0 carried into the new coordinates, and its halt timing begun
afresh (R43, R145 steps 3 and 4). -/
def Oven.afterReset (o : Oven) (delta : Int) : Oven :=
  { o with
    zoneSpans := Vector.replicate 8 .none
    speedSpan := .none
    excessStart := o.excessStart.map (· - delta)
    haltTimer := none
    haltMark := none }

/-- Supervision reopens its spans at a track reset (R145 steps 1 and 2). -/
def reopenOven (s : State) : State :=
  if s.oven.operating then
    let s := openOutZones s
    if s.oven.watch = .opened then
      if s.excess then openSpeed (s.fabricAt (s.geo (·.ovenOut))) s else clearWatch s
    else s
  else s

end Sys2Proof.Machine
end

