-- ==== Sys2Proof/Machine/Scanner.lean ====
section
/-! DEFINITION. The point scanner (spec/09, R163 to R177): the sweep, debouncing, delivery, the change queue, and what its
requests do once their checks have passed. -/
namespace Sys2Proof.Machine

/-! ### Groups (R163, R165) -/

/-- The group of a point (R163). -/
def groupOfPoint (p : PointNo) : GroupIx :=
  if h : p.val < 96 then ⟨p.val / 6, by omega⟩ else ⟨16 + (p.val - 96) / 8, by omega⟩

/-- The points of a group, in point order (R163). -/
def groupPoints (g : GroupIx) : List PointNo := allPoints.filter (fun p => groupOfPoint p = g)

/-- The debounce count in force for a group (R165). -/
def State.debounceCount (s : State) (g : GroupIx) : Nat :=
  match s.geom.working with
  | some r => if g.val < 16 then r.debounceStation else r.debounceLine
  | none => 4

def State.armed (s : State) (g : GroupIx) : Bool := s.scan.armed[g]

/-! ### The sweep (R164, R167) -/

/-- A point after the first sweep of a start (R167). -/
def Point.first (sample : Bool) : Point where
  raw := sample
  debounced := sample
  candidate := none
  stable := 0
  stored := sample
  unreported := false

/-- A point's debounce advanced on a new sample (R164). -/
def Point.advanced (x : Point) (sample : Bool) (count : Nat) : Point :=
  if sample = x.debounced then { x with raw := sample, candidate := none, stable := 0 }
  else if count ≤ x.stable + 1 then { x with raw := sample, debounced := sample, candidate := none, stable := 0 }
  else { x with raw := sample, candidate := some sample, stable := x.stable + 1 }

/-- The sample of point p in a sweep's reading. -/
def sampleOf (samples : BitVec 128) (p : PointNo) : Bool := samples.getLsbD p.val

/-- The points after a sweep: taken at once by the first, debounced by later ones (R164, R167). -/
def State.sweptPoints (s : State) (samples : BitVec 128) : Vector Point 128 :=
  Vector.ofFn fun p =>
    if s.scan.swept then (s.point p).advanced (sampleOf samples p) (s.debounceCount (groupOfPoint p))
    else Point.first (sampleOf samples p)

/-- The points whose debounced state differs between two readings, in point order. -/
def changedPoints (before after : Vector Point 128) : List PointNo :=
  allPoints.filter (fun p => before[p].debounced != after[p].debounced)

/-! ### Timers (log entry 3) -/

/-- One millisecond less on a running timer. -/
def tickDown (t : Option Nat) : Option Nat := t.map (· - 1)

/-- One millisecond on every running timer of the part: the time left of the trim, lower, raise, jog and persistence
timers falls, the gap timer of the receiver rises (log entries 3 and 20). -/
def tickTimers (s : State) : State :=
  let s := s.putChannels (s.channels.map (fun c => { c with trimTimer := tickDown c.trimTimer }))
  let s := s.putStations (s.stations.map (fun st =>
    { st with lowerTimer := tickDown st.lowerTimer, raiseTimer := tickDown st.raiseTimer }))
  let s := s.putOven { s.oven with persistence := tickDown s.oven.persistence }
  let s := s.putGov { s.gov with jogTimer := tickDown s.gov.jogTimer }
  s.putLink { s.link with receiver := s.link.receiver.map (fun g => { g with gap := g.gap + 1 }) }

/-! ### Delivery (R166) -/

/-- One change handed to the point's consumers (R163, R166). -/
def deliverPoint (p : PointNo) (v : Bool) (s : State) : State :=
  if h : p.val < 96 then stationPointChanged ⟨p.val / 6, by omega⟩ ⟨p.val % 6, by omega⟩ v s
  else if h : p.val < 104 then bandChanged ⟨p.val - 96, by omega⟩ v s
  else if p = estopPoint then estopChanged v s
  else if p = mainDrivePoint then mainDriveChanged v s
  else if p = serviceKeyPoint then s.putLink { s.link with serviceAccess := v }
  else if p = batcherPoint then batcherChanged v s
  else s

/-- The changes of a sweep handed on, in point order (R166 step 2). -/
def deliverAll (changes : List PointNo) (s : State) : State :=
  changes.foldl (fun s p => deliverPoint p (s.debounced p) s) s

/-! ### The change queue (R168 to R171) -/

def State.putPoint (s : State) (p : PointNo) (x : Point) : State :=
  s.putScan { s.scan with points := s.scan.points.set p.val x p.isLt }

/-- Room in the change queue. -/
def State.changeRoom (s : State) : Bool := s.scan.queue.length < Config.changePlaces

/-- A record of the point's debounced state appended, with the stored state moved to it, the flag cleared and CHANGES latched
(R169, R170, R171). -/
def appendRecord (p : PointNo) (late : Bool) (s : State) : State :=
  let x := s.point p
  let s := s.putScan { s.scan with queue := s.scan.queue ++ [⟨p, x.debounced, s.web.w, s.scan.clock, late⟩] }
  latch (.changes p x.debounced) (s.putPoint p { x with stored := x.debounced, unreported := false })

/-- The catch-up at one point (R170). -/
def catchUpPoint (s : State) (p : PointNo) : State :=
  let x := s.point p
  if x.unreported && s.changeRoom then
    if x.debounced = x.stored then s.putPoint p { x with unreported := false } else appendRecord p true s
  else s

/-- The catch-up of a sweep (R170). -/
def catchUp (s : State) : State := allPoints.foldl catchUpPoint s

/-- One change of the sweep reported (R168, R169).  A change that this sweep's catch-up has already settled makes no
second record (DEDUCED, log entry 9). -/
def reportPoint (s : State) (p : PointNo) : State :=
  let x := s.point p
  if s.armed (groupOfPoint p) then
    if x.unreported || x.stored = x.debounced then s
    else if s.changeRoom then appendRecord p false s
    else latch (.queueOverflow p) (s.putPoint p { x with unreported := true })
  else s.putPoint p { x with stored := x.debounced }

/-- The scanner's records of a sweep (R166 step 3). -/
def reportAll (changes : List PointNo) (s : State) : State := changes.foldl reportPoint (catchUp s)

/-- The clock one millisecond later (R163). -/
def clockAfter (n : Nat) : Nat := if n < 4294967295 then n + 1 else 0

/-- The stored states follow the debounced states (R167, while STARTING lasts). -/
def followStored (v : Vector Point 128) : Vector Point 128 := v.map (fun x => { x with stored := x.debounced })

/-- A sweep (R164, R166, R167).  The millisecond tick of the timers comes first, before the delivery of the changes: a timer that a
delivered change starts is not ticked by this sweep (DESIGN CHOICE, log entry 3). -/
def sweepDone (samples : BitVec 128) (s : State) : State :=
  let s := tickTimers s
  let points := s.sweptPoints samples
  let changes := if s.scan.swept then changedPoints s.scan.points points else []
  let scan := { s.scan with points := points, clock := clockAfter s.scan.clock, swept := true, sweepW := s.web.w }
  match s.link.state with
  | .starting => s.putScan { scan with points := followStored points }
  | .ready => reportAll changes (deliverAll changes (s.putScan scan))

/-! ### Requests (R172 to R174) -/

/-- The points of a group with the stored state at the debounced state and the flag clear (R172, R173). -/
def baseline (g : GroupIx) (v : Vector Point 128) : Vector Point 128 :=
  Vector.ofFn fun p =>
    if groupOfPoint p = g then { v[p] with stored := v[p].debounced, unreported := false } else v[p]

/-- A group armed or disarmed, with its baseline taken (R172, R173). -/
def setArmed (g : GroupIx) (b : Bool) (s : State) : State :=
  s.putScan { s.scan with points := baseline g s.scan.points, armed := s.scan.armed.set g.val b g.isLt }

/-- The number of points marked unreported. -/
def State.markedPoints (s : State) : Nat := (allPoints.filter (fun p => (s.point p).unreported)).length

end Sys2Proof.Machine
end

