-- ==== Sys2Proof/Machine/Replies.lean ====
section
/-! DEFINITION. The bodies of replies and notices (spec/11, sections 11.2, 11.3 and 11.5; R88, R111, R161, R193, R196, R197,
R199), field after field, big-endian.  A field narrower than its value carries the value's low bits (DESIGN CHOICE, log
entry 16). -/
namespace Sys2Proof.Machine

/-! ### Result codes (R183, section 11.2) -/

inductive ResultCode where
  | ok | notReady | unknownKind | badLength | outOfRange | invalidCombination | notPermitted | lineMoving | jobActive
  | noJob | noGeometry | busy | tooLate | slotInUse | screenChange | causePresent | full | empty | offStation
  deriving DecidableEq, Repr

/-- The value of a result code (section 11.2). -/
def ResultCode.value : ResultCode → Byte
  | .ok => 0x00 | .notReady => 0x01 | .unknownKind => 0x02 | .badLength => 0x03 | .outOfRange => 0x04
  | .invalidCombination => 0x05 | .notPermitted => 0x06 | .lineMoving => 0x07 | .jobActive => 0x08 | .noJob => 0x09
  | .noGeometry => 0x0A | .busy => 0x0B | .tooLate => 0x0C | .slotInUse => 0x0D | .screenChange => 0x0E
  | .causePresent => 0x0F | .full => 0x10 | .empty => 0x11 | .offStation => 0x12

/-- A reply body: the code and what follows it (R183). -/
def reply (c : ResultCode) (bytes : List Byte) : List Byte := c.value :: bytes

/-- A refusal that carries the code alone. -/
def refuse (c : ResultCode) : List Byte := reply c []

/-- INVALID_COMBINATION with the item blamed (R196). -/
def refuseItem (item : Nat) : List Byte := reply .invalidCombination (beBytes 2 item)

/-- CAUSE_PRESENT with a cause word (section 11.2). -/
def refuseCause (word : Nat) : List Byte := reply .causePresent (beBytes 2 word)

/-- Bits 8, 9 and 10 of the cause word (section 11.2). -/
def stationBit : Nat := 256
def batcherBit : Nat := 512
def bothEndsBit : Nat := 1024

/-! ### Absent fields and references (R197) -/

def slotByte (i : Option SlotIx) : Byte :=
  match i with
  | some i => byte (i.val + 1)
  | none => 0

/-- A signed coordinate that may be absent, 9 bytes (R197). -/
def coordBytes (x : Option Int) : List Byte :=
  match x with
  | some u => 1 :: beSigned 8 u
  | none => 0 :: beBytes 8 0

/-- A span reference, 3 bytes (R197). -/
def spanRefBytes : SpanRef → List Byte
  | .none => 0 :: beBytes 2 0
  | .id n => 1 :: beBytes 2 n
  | .lost => 2 :: beBytes 2 0

/-- A timer in 2 bytes, 0xFFFF when stopped, and every absent 2-byte value of R197. -/
def absent16 (x : Option Nat) : List Byte := beBytes 2 (x.getD 65535)

/-! ### Codes (R197) -/

def ChannelState.code : ChannelState → Nat
  | .unused => 0 | .reference => 1 | .hunt => 2 | .confirm => 3 | .locked => 4

def StationState.code : StationState → Nat
  | .up => 0 | .lowering => 1 | .down => 2 | .raising => 3 | .stuck => 4

def StuckCause.code : StuckCause → Nat
  | .lowerTimeout => 1 | .raiseTimeout => 2 | .bothEnds => 3 | .downLost => 4 | .seamStrike => 5

def MeasureOutcome.code : MeasureOutcome → Nat
  | .deadBand => 0 | .noStep => 1 | .issued => 2 | .held => 3

def Slot.code : Slot → Nat
  | .empty => 0 | .loaded _ => 1 | .active _ => 2 | .staged _ => 3

def ChangeoverState.code : ChangeoverState → Nat
  | .none => 0 | .pending => 1 | .bound => 2 | .settling => 3

def CureBlend.code : CureBlend → Nat
  | .old => 0 | .both => 1

def Watch.code : Watch → Nat
  | .clear => 0 | .timing => 1 | .opened => 2

def GovState.code : GovState → Nat
  | .halt => 0 | .run => 1 | .halting => 2 | .jog => 3 | .tripping => 4 | .tripped => 5

def LimitTerm.code : LimitTerm → Nat
  | .target => 0 | .maxSpeed => 1 | .cure => 2 | .hunt => 3 | .jog => 4 | .stop => 5

def StartCause.code : StartCause → Nat
  | .powerOn => 1 | .resetInput => 2 | .restart => 3

def LinkState.code : LinkState → Nat
  | .starting => 0 | .ready => 1

def ClosedBy.code : ClosedBy → Nat
  | .seam => 1 | .nextHead => 2

def LinkFault.code : LinkFault → Nat
  | .length => 1 | .gap => 2 | .crc => 3

/-- The cause of an UNDERCURE: 1 to 8 for a zone, 9 for SPEED (section 11.3). -/
def UndercureCause.code : UndercureCause → Nat
  | .zone n => n.val + 1
  | .speed => 9

def GateKind.code : GateKind → Nat
  | .lift _ => 0 | .nip _ => 1 | .clear _ => 2 | .ovenIn => 3 | .ovenOut => 4 | .exit => 5

/-- The station number of a gate, 0 for a line gate (R9). -/
def GateKind.station : GateKind → Nat
  | .lift k | .nip k | .clear k => k.val + 1
  | .ovenIn | .ovenOut | .exit => 0

/-- The kind code of a tag (section 11.3). -/
def TagKind.code : TagKind → Nat
  | .seam _ => 1 | .rollHead _ => 2 | .marker _ => 3 | .printGap _ _ => 4 | .misregister _ => 5 | .undercure _ => 6
  | .overcure => 7

/-- The kind code of an item: that of its tag (section 11.3). -/
def ItemKind.code : ItemKind → Nat
  | .marker _ => 3 | .printGap _ => 4 | .misregister _ => 5 | .undercure _ => 6 | .overcure => 7

/-! ### Notices (R199) -/

/-- The bytes of a detail, before the padding to 12. -/
def NoticeDetail.bytes : NoticeDetail → List Byte
  | .restarted c g => [byte c.code, flagByte g]
  | .lockLost k w => byte (k.val + 1) :: beBytes 6 w
  | .phaseSlip k r => byte (k.val + 1) :: beSigned 4 r
  | .trimTimeout k n t => byte (k.val + 1) :: byte n :: beSigned 2 t
  | .stationStuck k c => [byte (k.val + 1), byte c.code]
  | .seamStrike k u => byte (k.val + 1) :: beSigned 8 u
  | .trip t => beBytes 2 t.word
  | .trackFull kind u => byte kind.code :: beSigned 8 u
  | .seamUntracked u r => beSigned 8 u ++ beBytes 4 r
  | .reportReady n r => beBytes 2 n ++ beBytes 4 r
  | .reportLost r n => beBytes 4 r ++ beBytes 2 n
  | .changes p b => [byte p.val, flagByte b]
  | .queueOverflow p => [byte p.val]
  | .changeoverBound i j u => byte (i.val + 1) :: (beBytes 2 j ++ beSigned 8 u)
  | .changeoverDone i j w => byte (i.val + 1) :: (beBytes 2 j ++ beBytes 6 w)
  | .undercureOpen c => [byte c.code]
  | .overcure u n => beSigned 8 u ++ beBytes 2 n
  | .pasteLow k => [byte (k.val + 1)]
  | .linkError f => [byte f.code]
  | .linkOverrun kind tag => [kind, tag]

/-- A list brought to `n` bytes with zeros after it. -/
def padTo (n : Nat) (l : List Byte) : List Byte := (l ++ List.replicate n 0).take n

/-- The 14-byte notice body (R199). -/
def Notice.body (x : Notice) : List Byte :=
  match x.detail with
  | some d => byte x.count :: 1 :: padTo 12 d.bytes
  | none => byte x.count :: 0 :: padTo 12 []

/-- The frame of notice n as its state stands (R199). -/
def noticeFrame (n : NoticeNo) (x : Notice) : Frame := ⟨byte (0x40 + n.val), 0, x.body⟩

/-! ### Identify (R192) -/

/-- The rate of a strap code (R178). -/
def rateOf (strap : Fin 4) : Nat :=
  match strap with
  | 0 => 115200
  | 1 => 460800
  | 2 => 921600
  | 3 => 115200

def identifyReply (s : State) : List Byte :=
  reply .ok (beBytes 2 Config.deviceCode.toNat ++ [Config.hardwareRevision] ++ beBytes 2 Config.firmwareRevision.toNat
    ++ [byte s.link.state.code, byte s.link.startCause.code] ++ beBytes 4 (rateOf s.link.strap)
    ++ [byte s.link.strap.val, byte Config.receivePlaces] ++ beBytes 2 Config.largestBody ++ beBytes 4 s.scan.clock)

/-! ### Geometry (R9) -/

/-- Get Geometry, selector 0 (R9). -/
def geometryReply (s : State) (g : GeomRecord) : List Byte :=
  reply .ok (1 :: flagByte s.geom.storeMatch :: geometryBytes g)

/-- Get Geometry, selector 1 (R9): every gate with its index in table order. -/
def gateBytes (g : Gate) (index : Nat) : List Byte :=
  byte index :: byte g.kind.code :: byte g.kind.station :: beBytes 4 g.pos

def gateTableReply (s : State) : List Byte :=
  reply .ok (byte s.geom.gates.length :: s.geom.gates.zipIdx.flatMap (fun x => gateBytes x.1 x.2))

/-! ### Jobs (R115, R116) -/

/-- The changeover record, 27 bytes (section 11.3); the byte that says a bound seam is present is coded as a flag (log entry 34). -/
def Changeover.bytes (c : Changeover) : List Byte :=
  [byte c.state.code, slotByte c.oldSlot, slotByte c.stagedSlot]
  ++ (match c.old with
      | some o => beBytes 2 o.jobId ++ beBytes 2 o.maxSpeed ++ beBytes 2 o.huntSpeed ++ beBytes 2 o.dwell ++ beBytes 2 o.haltDwell
      | none => beBytes 10 0)
  ++ (match c.boundSeam with
      | some b => 1 :: (beBytes 2 b.id ++ beSigned 8 b.u)
      | none => 0 :: beBytes 10 0)
  ++ beBytes 2 (maskOf 16 (fun n => c.switched[n]?.getD false)) ++ [byte c.blend.code]

/-- Read Job (R116): OK with the record, or EMPTY without one. -/
def jobReply (s : State) (i : SlotIx) : List Byte :=
  let head := byte (s.slot i).code :: slotByte s.activeSlot :: s.changeover.bytes
  match (s.slot i).job with
  | some j => reply .ok (head ++ jobBytes j)
  | none => reply .empty head

/-- Load Job (R115): the number of clamped items and the first of them. -/
def clampReply (items : List Nat) : List Byte :=
  reply .ok (byte items.length :: beBytes 2 ((smallestItem items).getD 0))

/-! ### Governor (R152, R155) -/

def targetReply (s : State) (clamped : Bool) : List Byte :=
  reply .ok (beBytes 2 s.gov.target ++ [flagByte clamped] ++ beBytes 2 s.gov.limit ++ [byte s.gov.term.code])

def jogReply (ms : Nat) (clamped : Bool) : List Byte := reply .ok (beBytes 2 ms ++ [flagByte clamped])

/-! ### Stations (R88, R99, R109, R110, R111) -/

/-- The reply of Lift Station, Lower Station and Clear Station Fault. -/
def stationStateReply (s : State) (k : StationIx) : List Byte :=
  reply .ok [byte (s.station k).state.code, byte (s.station k).reasons.code]

/-- The station part of Get Station, 22 bytes (R111); bits 6 and 7 of its points byte and bit 7 of its lift-reason set are 0 (DESIGN CHOICE,
log entry 31). -/
def stationPart (s : State) (k : StationIx) : List Byte :=
  let st := s.station k
  [flagByte (s.installed k), byte st.state.code, flagByte st.lowerOutput, byte st.mode.code, slotByte st.slot,
   byte st.reasons.code, byte st.hold, flagByte st.hasPrinted]
  ++ spanRefBytes st.gap ++ [flagByte st.gapPlanned] ++ absent16 st.lowerTimer ++ absent16 st.raiseTimer
  ++ [byte (match st.stuckCause with | some c => c.code | none => 0)]
  ++ beBytes 2 st.stuckCount ++ beBytes 2 st.strikeCount
  ++ [byte (maskOf 6 (fun n => if h : n < 6 then s.debounced (stationPoint k ⟨n, h⟩) else false))]

/-- The last measurement, 24 bytes; the 23 bytes of an absent one are 0 (DESIGN CHOICE, log entry 29), and its present byte is coded as a
flag (log entry 34). -/
def measurementBytes (m : Option Measurement) : List Byte :=
  match m with
  | some m => 1 :: (beBytes 6 m.wm ++ beBytes 2 m.cm ++ beBytes 4 m.phiM ++ beBytes 4 m.phiP ++ beSigned 4 m.error
      ++ beSigned 2 m.trim ++ [byte m.outcome.code])
  | none => 0 :: beBytes 23 0

/-- The trim in flight, 10 bytes; the 9 bytes of an absent one are 0 (DESIGN CHOICE, log entry 29), and its present byte is coded as a flag
(log entry 34). -/
def flightBytes (f : Option TrimFlight) : List Byte :=
  match f with
  | some f => 1 :: byte f.number :: (beSigned 2 f.trim ++ beBytes 6 f.wIssue)
  | none => 0 :: beBytes 9 0

/-- The parameters in force, 23 bytes, all 0 with no job in force (R88, R197). -/
def parameterBytes (j : Option Job) (k : StationIx) : List Byte :=
  match j with
  | some j =>
    let e := j.entries[k]
    beBytes 4 j.rpt ++ beBytes 1 j.gain ++ beBytes 2 j.deadBand ++ beBytes 2 j.trimLimit ++ beBytes 4 j.window
      ++ beBytes 1 j.missLimit ++ [byte (j.reference.val + 1)] ++ beSigned 4 e.offset ++ beSigned 2 e.stretch
      ++ beBytes 2 e.tolerance
  | none => beBytes 23 0

/-- The register part of Get Station (R88). -/
def registerPart (s : State) (k : StationIx) : List Byte :=
  let c := s.channel k
  [byte c.state.code] ++ beSigned 4 c.revolution ++ beBytes 2 (s.phaseCount k) ++ [flagByte c.referenced]
  ++ coordBytes c.wExp ++ coordBytes c.wLast ++ [byte c.misses, flagByte c.outOfTol] ++ measurementBytes c.lastMeas
  ++ flightBytes c.flight ++ [byte c.nextTrim] ++ spanRefBytes c.span ++ beBytes 2 c.strays ++ beBytes 2 c.overruns
  ++ beBytes 2 c.phaseSlips ++ beBytes 2 c.lockLosses ++ beBytes 2 c.trims ++ beBytes 2 c.trimTimeouts
  ++ parameterBytes (s.jobFor k) k

def getStationReply (s : State) (k : StationIx) : List Byte := reply .ok (stationPart s k ++ registerPart s k)

/-! ### Track and reports (R40, R56) -/

/-- The where field of a tag (section 11.3). -/
def TagKind.place : TagKind → Nat
  | .printGap k _ | .misregister k => k.val + 1
  | .undercure c => c.code
  | .seam (some i) => i.val + 1
  | .seam none | .rollHead _ | .marker _ | .overcure => 0

/-- The flags of a tag record (section 11.3); bits 3 to 7 are 0 (DESIGN CHOICE, log entry 31). -/
def Tag.flags (t : Tag) : Nat :=
  t.uEnd.isSome.toNat + 2 * t.isBound.toNat + 4 * (match t.kind with | .printGap _ p => p | _ => false).toNat

/-- The kind part of a tag record, 8 bytes (section 11.3); its padding is sent as 0 (R195). -/
def Tag.kindPart (t : Tag) : List Byte :=
  match t.kind with
  | .rollHead r => beBytes 4 r.rollId ++ beBytes 2 r.declared ++ beBytes 2 r.jobId
  | .marker l => beBytes 2 l ++ beBytes 6 0
  | .seam _ => beBytes 8 0
  | .printGap _ _ | .misregister _ | .undercure _ | .overcure => beSigned 8 (t.uEnd.getD 0)

/-- A tag record, 22 bytes (section 11.3). -/
def Tag.bytes (t : Tag) : List Byte :=
  beBytes 2 t.id ++ [byte t.kind.code, byte t.flags, byte t.nextGate, byte t.kind.place] ++ beSigned 8 t.uStart ++ t.kindPart

/-- Read Track from a start index (R40). -/
def trackReply (s : State) (start : Nat) : List Byte :=
  let page := (s.tags.drop start).take 16
  let ids := s.track.declarations.map (·.rollId)
  reply .ok (beBytes 6 s.web.w ++ beBytes 6 s.web.wmax ++ beBytes 6 s.web.deficit ++ [byte s.tags.length]
    ++ beBytes 2 s.track.nextId ++ beBytes 2 s.track.evictions ++ beBytes 2 s.track.drops ++ beBytes 2 s.track.untracked
    ++ [byte s.track.declarations.length] ++ beBytes 4 (ids[0]?.getD 0) ++ beBytes 4 (ids[1]?.getD 0)
    ++ [byte page.length] ++ page.flatMap (·.bytes))

/-- The where field of an item: as in the tag record, 0 for MARKER and OVERCURE (section 11.3). -/
def ItemKind.place : ItemKind → Nat
  | .printGap k | .misregister k => k.val + 1
  | .undercure c => c.code
  | .marker _ | .overcure => 0

/-- An item, 12 bytes (section 11.3); the label of an item that is no MARKER is 0 (DESIGN CHOICE, log entry 29). -/
def Item.bytes (i : Item) : List Byte :=
  [byte i.kind.code, byte i.kind.place] ++ beSigned 4 i.offset ++ beBytes 4 i.length
  ++ beBytes 2 (match i.kind with | .marker l => l | _ => 0)

/-- The 24-byte summary of Fetch Roll Report (R56); the 16 bytes of the open report are 0 when none is open (DESIGN CHOICE, log
entry 29), and the byte that says one is open is coded as a flag (log entry 34). -/
def reportSummary (r : ReportBlock) : List Byte :=
  byte r.queue.length :: (beBytes 2 r.unassigned ++ beBytes 2 r.lost ++ beBytes 2 r.nextNumber
    ++ (match r.current with
        | some o => 1 :: (beBytes 4 o.roll.rollId ++ beBytes 2 o.roll.jobId ++ beSigned 8 o.uHead
            ++ [byte o.items.length, byte o.overflow])
        | none => 0 :: beBytes 16 0))

/-- A report as fetched (section 11.3). -/
def Report.bytes (r : Report) : List Byte :=
  beBytes 2 r.number ++ beBytes 4 r.roll.rollId ++ beBytes 2 r.roll.declared ++ beBytes 2 r.roll.jobId
  ++ beSigned 8 r.uHead ++ beBytes 4 r.measured ++ [byte r.closedBy.code, byte r.items.length, byte r.overflow]
  ++ r.items.flatMap (·.bytes)

/-! ### Scanner (R172 to R176) -/

/-- The debounced states of a group, one bit per point in point order from bit 0; bits 6 and 7 of a group of six points are 0 (DESIGN
CHOICE, log entry 31). -/
def groupStates (s : State) (g : GroupIx) : Nat :=
  maskOf 8 (fun n => ((groupPoints g)[n]?.map s.debounced).getD false)

def armReply (s : State) (g : GroupIx) : List Byte := reply .ok [byte (g.val + 1), byte (groupStates s g)]

def pointReply (s : State) (p : PointNo) : List Byte :=
  let x := s.point p
  let g := groupOfPoint p
  reply .ok [byte p.val, flagByte x.raw, flagByte x.debounced,
    (match x.candidate with | none => 0 | some false => 1 | some true => 2), byte x.stable, flagByte x.stored,
    flagByte x.unreported, byte (g.val + 1), flagByte (s.armed g), byte (s.debounceCount g)]

/-- The debounced states of all points: point 0 in bit 7 of the first byte. -/
def censusStates (s : State) : List Byte :=
  (List.range 16).map (fun i => byte (maskOf 8 (fun n =>
    if h : 8 * i + (7 - n) < 128 then s.debounced ⟨8 * i + (7 - n), h⟩ else false)))

/-- Census (R176); bits 20 to 23 of the armed-groups field are 0 (DESIGN CHOICE, log entry 31). -/
def censusReply (s : State) : List Byte :=
  reply .ok (censusStates s ++ beBytes 3 (maskOf 20 (fun n => s.scan.armed[n]?.getD false))
    ++ [byte s.scan.queue.length, byte s.markedPoints] ++ beBytes 4 s.scan.clock ++ beBytes 6 s.scan.sweepW)

/-- A change record, 12 bytes (R171, section 11.3); bits 2 to 7 of its flags are 0 (DESIGN CHOICE, log entry 31). -/
def ChangeRecord.bytes (r : ChangeRecord) : List Byte :=
  [byte r.point.val, byte (r.newState.toNat + 2 * r.late.toNat)] ++ beBytes 6 r.w ++ beBytes 4 r.stamp

/-- Fetch Changes after the removal of `out` (R174). -/
def changesReply (s : State) (c : ResultCode) (out : List ChangeRecord) : List Byte :=
  reply c ([byte s.scan.queue.length, byte s.markedPoints, byte out.length] ++ out.flatMap (·.bytes))

/-! ### Link (R190, R191, R193) -/

/-- Subscribe (R190); bits 20 to 23 of a 3-byte set of notice kinds are 0 here, in Acknowledge Notices and in Get Status (DESIGN CHOICE, log
entry 31). -/
def subscribeReply (s : State) : List Byte :=
  reply .ok (beBytes 3 (noticeMask s.link.subscribed) ++ beBytes 3 s.link.pendingMask)

def acknowledgeReply (s : State) : List Byte := reply .ok (beBytes 3 s.link.pendingMask)

def statusLink (l : Link) : List Byte :=
  [byte l.state.code, byte l.startCause.code, flagByte l.serviceAccess, byte l.strap.val]
  ++ beBytes 3 (noticeMask l.subscribed) ++ beBytes 3 l.pendingMask ++ [byte l.queue.length]
  ++ beBytes 2 l.lengthErrors ++ beBytes 2 l.gapErrors ++ beBytes 2 l.crcErrors ++ beBytes 2 l.overruns
  ++ beBytes 2 l.requestsTaken ++ beBytes 2 l.noticesSent

/-- The web measure section of Get Status; bits 2 to 7 of its flags are 0 (DESIGN CHOICE, log entry 31). -/
def statusWeb (w : WebMeasure) : List Byte :=
  beBytes 6 w.w ++ beBytes 6 w.wmax ++ beBytes 6 w.deficit ++ [byte (directionCode w.direction)]
  ++ beBytes 2 w.measuredSpeed ++ [byte (w.reverseLimit.toNat + 2 * w.webLimit.toNat)]
  ++ beBytes 2 w.seamsTaken ++ beBytes 2 w.seamsIgnored

/-- The governor section (R161): the cure limit among the terms is absent while supervision does not operate. -/
def statusGovernor (g : Governor) : List Byte :=
  [byte g.state.code] ++ beBytes 2 g.target ++ beBytes 2 g.limit ++ [byte g.term.code] ++ beBytes 2 g.demand
  ++ [byte (directionCode g.direction)] ++ beBytes 2 g.causes.word ++ absent16 g.jogTimer
  ++ [byte (match g.jogDirection with | some d => directionCode d | none => 2), flagByte g.reversalPending]
  ++ beBytes 2 g.tripCount ++ absent16 g.terms.maxSpeed ++ absent16 g.terms.cure ++ absent16 g.terms.huntSpeed
  ++ [flagByte g.terms.huntHeld]

def statusOven (o : Oven) : List Byte :=
  [flagByte o.operating, byte (maskOf 8 (fun n => o.bandIn[n]?.getD false))] ++ o.zoneSpans.toList.flatMap spanRefBytes
  ++ absent16 o.dwell ++ absent16 o.cureLimit ++ absent16 o.threshold ++ [byte o.watch.code]
  ++ beSigned 8 (o.excessStart.getD 0) ++ absent16 o.persistence ++ spanRefBytes o.speedSpan
  ++ beBytes 4 (o.haltTimer.getD 4294967295) ++ coordBytes o.haltMark

/-- The jobs section of Get Status; the active job id is 0 with no job active (DESIGN CHOICE, log entry 36: R197 gives no code for its
absence). -/
def statusJobs (s : State) : List Byte :=
  [slotByte s.activeSlot] ++ beBytes 2 s.activeJobId
  ++ [byte s.changeover.state.code, slotByte s.changeover.stagedSlot]
  ++ beBytes 2 (maskOf 16 (fun n => s.changeover.switched[n]?.getD false))

/-- The pending entries of Get Status, in ascending notice number (DESIGN CHOICE, log entry 35: section 11.3 says only "per pending
kind"). -/
def statusPending (l : Link) : List Byte :=
  let kinds := (List.finRange 20).filter (fun n => l.notices[n].pending)
  byte kinds.length :: kinds.flatMap (fun n => byte n.val :: l.notices[n].body)

/-- Get Status (R193). -/
def statusReply (s : State) : List Byte :=
  reply .ok (statusLink s.link ++ [flagByte s.geometryValid, flagByte s.geom.storeMatch] ++ statusWeb s.web
    ++ statusGovernor s.gov ++ statusOven s.oven ++ statusJobs s
    ++ allStations.map (fun k => byte (s.station k).state.code) ++ statusPending s.link)

end Sys2Proof.Machine
end

