-- ==== Sys2Proof/Machine/Changeover.lean ====
section
/-! DEFINITION. The changeover (spec/06 sections 6.5 to 6.8): binding, switching, completion, the oven crossings, the end
of SETTLING and a track reset. -/
namespace Sys2Proof.Machine

/-- An accepted Stage Job's changeover record (R119). -/
def Changeover.stagedFrom (old staged : SlotIx) (j : Job) : Changeover :=
  { Changeover.cleared with
    state := .pending
    oldSlot := some old
    stagedSlot := some staged
    old := some ⟨j.id, j.maxSpeed, j.huntSpeed, j.dwell, j.haltDwell⟩ }

/-- The binding that a seam inserted now carries (R25, R120). -/
def State.bindingNow (s : State) : Option SlotIx :=
  match s.changeover.state with
  | .pending => s.changeover.stagedSlot
  | .none | .bound | .settling => none

/-- The changeover becomes BOUND to the seam inserted with id `n` at u (R120). -/
def bindChangeover (n : Nat) (u : Int) (s : State) : State :=
  match s.bindingNow with
  | none => s
  | some i =>
    latch (.changeoverBound i (match s.stagedJob with | some j => j.id | none => 0) u)
      (s.putChangeover { s.changeover with state := .bound, boundSeam := some ⟨n, u⟩ })

/-- Whether the tag with id `n` is the seam that the changeover follows. -/
def Changeover.follows (c : Changeover) (n : Nat) : Bool :=
  match c.boundSeam with
  | some b => b.id == n
  | none => false

/-- Whether the channel's keep is honoured at the switch of station k (R60, R122). -/
def keepHonoured (k : StationIx) (old new : Job) : Bool :=
  new.entries[k].keep && decide (new.reference = old.reference)
    && flushedState k (some new) new.entries[k].mode == .hunt

/-- Whether every installed station has switched (R123). -/
def State.allSwitched (s : State) : Bool := s.installedStations.all (fun k => s.changeover.switched[k])

/-- Every station follows the slot (R123: "every station follows the new active slot"; for the stations above N, which
do not switch, DEDUCED, log entry 12). -/
def followSlot (i : SlotIx) (s : State) : State :=
  s.putStations (Vector.ofFn fun k => { s.stations[k] with slot := some i })

/-- The changeover completes (R123). -/
def completeChangeover (old staged : SlotIx) (j : Job) (s : State) : State :=
  let s := (s.putSlot old (s.slot old).toLoaded)
  let s := (s.putSlot staged (s.slot staged).toActive)
  let s := latch (.changeoverDone staged j.id s.web.w) (followSlot staged s)
  takeDwell (s.putChangeover
    (if 1 ≤ s.geo (·.zoneCount) then { s.changeover with state := .settling } else Changeover.cleared))

/-- Station k switches to the staged job (R121, R122). -/
def switchStation (k : StationIx) (staged : SlotIx) (old new : Job) (s : State) : State :=
  let s := s.putChangeover { s.changeover with switched := s.changeover.switched.set k.val true k.isLt }
  let mode := new.entries[k].mode
  let st := s.station k
  let printed := st.hasPrinted && st.mode == .print && mode == .print
  switchChannel k (keepHonoured k old new) (takeMode k mode (some staged) printed s)

/-- The bound seam's CLEAR_k crossing at jobs and changeover (R121, R123). -/
def boundClear (k : StationIx) (n : Nat) (s : State) : State :=
  let c := s.changeover
  if c.state = .bound ∧ c.follows n = true ∧ c.switched[k] = false then
    match c.oldSlot, c.stagedSlot, s.jobOfSlot c.oldSlot, s.stagedJob with
    | some o, some i, some jOld, some jNew =>
      let s := switchStation k i jOld jNew s
      if s.allSwitched then completeChangeover o i jNew s else s
    | _, _, _, _ => s
  else s

/-- The bound seam's OVEN_IN crossing: at jobs and changeover, then at supervision (R124, R136). -/
def boundOvenIn (n : Nat) (s : State) : State :=
  if s.changeover.state = .settling ∧ s.changeover.follows n = true then
    takeDwell (s.putChangeover { s.changeover with blend := .both })
  else s

/-- The bound seam's OVEN_OUT crossing: at jobs and changeover, then at supervision (R124, R136). -/
def boundOvenOut (n : Nat) (s : State) : State :=
  if s.changeover.state = .settling ∧ s.changeover.follows n = true then takeDwell (s.putChangeover Changeover.cleared)
  else s

/-- A SETTLING changeover without a followed seam at a new high-water mark (R128, R136). -/
def settlingCheck (s : State) : State :=
  if s.changeover.state = .settling ∧ s.changeover.boundSeam = none ∧ s.ovenLength ≤ s.web.wmax then
    takeDwell (s.putChangeover Changeover.cleared)
  else s

/-- The changeover record after a track reset (R126). -/
def Changeover.afterReset (c : Changeover) : Changeover :=
  match c.state with
  | .none | .pending => c
  | .bound =>
    if c.noneSwitched then { c with state := .pending, boundSeam := none }
    else { c with state := .pending, boundSeam := none, blend := .both }
  | .settling => { c with boundSeam := none, blend := .both }

end Sys2Proof.Machine
end

