-- ==== Sys2Proof/Machine/Crossings.lean ====
section
/-! DEFINITION. Gate crossings and their delivery (spec/02, R29 to R34), and the insertion of a taken seam (R25, R35 to
R37). -/
namespace Sys2Proof.Machine

/-- A crossing delivered to the blocks that act on it (R31). -/
def deliver (t : Tag) (g : GateKind) (s : State) : State :=
  match t.kind, g with
  | .seam _, .lift k => seamLift k s
  | .seam _, .nip k => seamNip k t.uStart s
  | .seam none, .clear k => seamClear k s
  | .seam (some _), .clear k => seamClear k (boundClear k t.id s)
  | .seam (some _), .ovenIn => boundOvenIn t.id s
  | .seam (some _), .ovenOut => boundOvenOut t.id s
  | _, .exit => exitTag t s
  | _, _ => s

/-- The tag's next crossing taken: its index passes the gate, the crossing is delivered, and a tag whose EXIT crossing
has been handled is removed (R29, R33, R34). -/
def takeCrossing (t : Tag) (s : State) : State :=
  match s.nextGateOf t with
  | none => s
  | some g =>
    let s := s.putTags (mapTag t.id (fun x => { x with nextGate := x.nextGate + 1 }) s.tags)
    let s := deliver t g.kind s
    if g.kind = .exit then s.putTags (dropTag t.id s.tags) else s

/-- The order of R30 between the tag found first in the track and a later one: the later one is taken only when its
crossing fell due at a smaller W. -/
def State.earlier (s : State) (best : Option Tag) (t : Tag) : Option Tag :=
  if s.isDue t then
    match best with
    | none => some t
    | some b => if (s.nextDue t).getD 0 < (s.nextDue b).getD 0 then some t else some b
  else best

/-- The tag whose crossing is the next to be taken (R30), none when no crossing is due. -/
def State.earliest (s : State) : Option Tag := s.tags.foldl s.earlier none

/-- At most `fuel` due crossings taken, in the order of R30. -/
def walkFor : Nat → State → State
  | 0, s => s
  | fuel + 1, s =>
    match s.earliest with
    | none => s
    | some t => walkFor fuel (takeCrossing t s)

/-- The walk (R29, R30, R32): until no crossing is due.  A tag inserted during the walk has no crossing due (R21), so no
more crossings are taken than the tags of the track have gates. -/
def walk (s : State) : State := walkFor (s.tags.length * s.geom.gates.length) s

/-- At most `fuel` due crossings of one tag taken, at its insertion (R21). -/
def settleTag : Nat → Nat → State → State
  | 0, _, s => s
  | fuel + 1, n, s =>
    match findTag n s.tags with
    | none => s
    | some t => if s.isDue t then settleTag fuel n (takeCrossing t s) else s

/-! ### A taken seam (R25, R36, R37) -/

/-- The roll record of the head that a seam brings (R25). -/
def State.rollOfSeam (s : State) : RollRecord :=
  let jobId := match s.bindingNow with
    | some _ => (match s.stagedJob with | some j => j.id | none => 0)
    | none => s.activeJobId
  match s.track.declarations with
  | d :: _ => ⟨d.rollId, d.declared, jobId⟩
  | [] => ⟨0, 0, jobId⟩

/-- The second of the two places that R25 requires, held for the ROLL_HEAD while the SEAM's own crossings are taken, so that a
span which they open cannot take it (DESIGN CHOICE, log entry 10).  It stands under the id 0, which R19 gives to no tag. -/
def holdHeadPlace (roll : RollRecord) (u : Int) (s : State) : State :=
  s.putTags (placeTag ⟨0, .rollHead roll, u, none, silentIndex s.geom.gates s.web.wmax u⟩ s.tags)

/-- The ROLL_HEAD inserted in the place held for it, under the next free id (R19, R21, R25). -/
def insertHead (s : State) : State :=
  let h := s.newId
  settleExit h (s.putTrack { s.track with
    tags := mapTag 0 (fun t => { t with id := h }) s.tags, nextId := nextNumberAfter h })

/-- SEAM and ROLL_HEAD inserted at u with two free places, SEAM first (R25): the SEAM's insertion, with every crossing of it that
is already due, is complete before the ROLL_HEAD is inserted (R21). -/
def insertSeam (u : Int) (s : State) : State :=
  let n := s.newId
  let s1 := holdHeadPlace s.rollOfSeam u (placeNew ⟨n, .seam s.bindingNow, u, none, 0⟩ s)
  let s2 := s1.putTrack { s1.track with declarations := s1.track.declarations.drop 1 }
  insertHead (settleTag s2.geom.gates.length n (bindChangeover n u s2))

/-- A seam that cannot be inserted (R37). -/
def seamUntracked (u : Int) (s : State) : State :=
  let roll := match s.track.declarations with | d :: _ => d.rollId | [] => 0
  let s := s.putTrack { s.track with
    declarations := s.track.declarations.drop 1, untracked := satInc s.track.untracked }
  requestTrip .seamUntracked (latch (.seamUntracked u roll) s)

/-- The track is handed a taken seam at u (R25, R36, R37). -/
def takeSeam (u : Int) (s : State) : State :=
  let lacking := s.tags.length + 2 - Config.trackPlaces
  let out := s.evictionList
  if out.length = lacking then insertSeam u (out.foldl (fun s t => evictOne t s) s)
  else seamUntracked u s

end Sys2Proof.Machine
end

