-- ==== Sys2Proof/Machine/TrackReset.lean ====
section
/-! DEFINITION. The track reset (R42 to R45), and what its neighbours do at it: web measure (R17), the exit (R57), station
control (R102, R107), register control (R84, R86), oven supervision (R145) and the changeover (R126). -/
namespace Sys2Proof.Machine

/-- Web measure at a track reset (R17, second column). -/
def WebMeasure.afterReset (w : WebMeasure) : WebMeasure :=
  { w with w := 0, wmax := 0, deficit := 0, reverseLimit := false, webLimit := false, lastSeam := none }

/-- Steps 1 to 3 of R42. -/
def emptyTrack (s : State) : State :=
  (s.putTrack { s.track with tags := [], declarations := [] }).putWeb s.web.afterReset

/-- The open report is discarded (R42 step 4, R57). -/
def discardReport (s : State) : State := s.putReports { s.reports with current := none }

/-- A station's hold count becomes 0 and SEAM leaves its set (R42 step 5, R102). -/
def clearHold (k : StationIx) (s : State) : State :=
  setReason k .seam false (s.putStation k { s.station k with hold := 0 })

/-- Every owner drops its references and lost marks, and carries its coordinates over by `delta` = W_old - D_old (R43, R84,
R86, R107, R145). -/
def dropReferences (delta : Int) (s : State) : State :=
  ((s.putStations (s.stations.map (fun st => { st with gap := .none }))).putChannels
    (s.channels.map (·.shifted delta))).putOven (s.oven.afterReset delta)

/-- A span owner (R43). -/
inductive Owner where
  | station (k : StationIx) | channel (k : StationIx) | oven
  deriving DecidableEq, Repr

def allOwners : List Owner := allStations.map .station ++ allStations.map .channel ++ [.oven]

/-- An owner opens the spans of the conditions that hold (R43, R84, R107, R145). -/
def reopen (o : Owner) (s : State) : State :=
  match o with
  | .station k => judgeGap k s
  | .channel k => judgeAtNip k s
  | .oven => reopenOven s

/-- A track reset whose owners act in the order that `code` selects (R42, R43; log entries 4 and 19). -/
def trackResetWith (code : Nat) (s : State) : State :=
  let delta := s.front
  let s := dropReferences delta (discardReport (emptyTrack s))
  let s := allStations.foldl (fun s k => clearHold k s) s
  let s := (permute code allOwners).foldl (fun s o => reopen o s) s
  takeDwell (s.putChangeover s.changeover.afterReset)

/-- A track reset (R42). -/
def doTrackReset (s : State) : State := withFreeOrder trackResetWith s

end Sys2Proof.Machine
end

