-- ==== Sys2Proof/Machine/GeometryRequests.lean ====
section
/-! DEFINITION. What the geometry requests answer and do (R2 to R9), given their bodies at the right length; and the settings
store's read (R8) and completed write (R7).  A rule answers the state after the request and the reply's body. -/
namespace Sys2Proof.Machine

/-- The station at an accepted Set Geometry (R112, second column); a station not installed before and after loses its state.
The stuck cause and the counts of a station that becomes uninstalled are kept (DEDUCED, log entry 24). -/
def Station.atGeometry (st : Station) (before after : Bool) : Station :=
  if before && after then
    { st with mode := .off, slot := none, reasons := st.reasons.forMode .off, hasPrinted := false, gap := .none }
  else if after then Station.start
  else { Station.start with
    stuckCause := st.stuckCause, stuckCount := st.stuckCount, strikeCount := st.strikeCount }

/-- The channel at an accepted Set Geometry (R87, second column). -/
def Channel.atGeometry (c : Channel) : Channel :=
  { c with
    state := .unused, revolution := 0, referenced := false, wExp := none, wLast := none, misses := 0
    outOfTol := false, span := .none }

/-- Supervision at an accepted Set Geometry (R146, second column). -/
def Oven.atGeometry (o : Oven) : Oven := { Oven.start with bandIn := o.bandIn }

/-- The geometry block with `g` working (R5 steps 1 to 4). -/
def GeometryStore.accepting (x : GeometryStore) (g : GeomRecord) : GeometryStore :=
  { x with working := some g, storeMatch := false, gates := g.gateTable }

/-- An accepted Set Geometry (R5), and the stations that it makes installed take up their points (R112), in web order (DESIGN
CHOICE, log entry 19: R112 gives no order among them). -/
def acceptGeometry (g : GeomRecord) (s : State) : State :=
  let before := s.installed
  let s := s.putGeom (s.geom.accepting g)
  let s := s.putStations (Vector.ofFn fun k => s.stations[k].atGeometry (before k) (s.installed k))
  let s := s.putChannels (s.channels.map (·.atGeometry))
  let s := doTrackReset (s.putOven s.oven.atGeometry)
  (s.installedStations.filter (fun k => !before k)).foldl (fun s k => takeUpPoints k s) s

/-- Set Geometry (R2 to R5). -/
def setGeometryRule (body : List Byte) (s : State) : State × List Byte :=
  if !s.link.serviceAccess then (s, refuse .notPermitted)
  else if s.gov.state ≠ .halt then (s, refuse .lineMoving)
  else if s.jobActive then (s, refuse .jobActive)
  else
    let g := readGeometry body
    if !g.rangesHold then (s, refuse .outOfRange)
    else match smallestItem g.blamed with
      | some item => (s, refuseItem item)
      | none => (acceptGeometry g s, refuse .ok)

/-- Get Geometry (R9). -/
def getGeometryRule (body : List Byte) (s : State) : State × List Byte :=
  match s.geom.working with
  | none => (s, refuse .noGeometry)
  | some g =>
    match field body 0 1 with
    | 0 => (s, geometryReply s g)
    | 1 => (s, gateTableReply s)
    | _ => (s, refuse .outOfRange)

/-- Save Geometry (R7): an accepted one starts the write and forms no reply yet. -/
def saveGeometryRule (s : State) : State × Option (List Byte) :=
  if !s.link.serviceAccess then (s, some (refuse .notPermitted))
  else match s.geom.working with
    | none => (s, some (refuse .noGeometry))
    | some g => (s.putGeom { s.geom with writing := some g }, none)

/-- The settings store with its write complete (R7). -/
def GeometryStore.written (x : GeometryStore) (g : GeomRecord) : GeometryStore :=
  { x with stored := storeImage g, storeMatch := true, writing := none }

/-- The geometry block after the settings store has been read (R8). -/
def GeometryStore.afterRead (x : GeometryStore) : GeometryStore :=
  match x.stored.good with
  | some g => { x with working := some g, storeMatch := true, gates := g.gateTable, storeRead := true }
  | none => { x with working := none, storeMatch := false, gates := [], storeRead := true }

/-- The settings store is read, once in a start (R8). -/
def storeReadDone (s : State) : State :=
  match s.link.state with
  | .starting => if s.geom.storeRead then s else doTrackReset (s.putGeom s.geom.afterRead)
  | .ready => s

end Sys2Proof.Machine
end

