-- ==== Sys2Proof/Machine/JobRequests.lean ====
section
/-! DEFINITION. What the job requests answer and do (R114 to R119, R125), given their bodies at the right length. -/
namespace Sys2Proof.Machine

/-- Load Job (R114, R115). -/
def loadJobRule (body : List Byte) (s : State) : State × List Byte :=
  match slotOf (field body 0 1) with
  | none => (s, refuse .outOfRange)
  | some i =>
    match s.slot i with
    | .active _ | .staged _ => (s, refuse .slotInUse)
    | .empty | .loaded _ =>
      let r := readJobRecord (body.drop 1)
      if !r.structureHolds then (s, refuse .outOfRange)
      else match smallestItem (r.blamed (s.geom.working.map (·.installed))) with
        | some item => (s, refuseItem item)
        | none => (s.putSlot i (.loaded r.stored), clampReply r.clampedItems)

/-- Read Job (R116). -/
def readJobRule (body : List Byte) (s : State) : State × List Byte :=
  match slotOf (field body 0 1) with
  | none => (s, refuse .outOfRange)
  | some i => (s, jobReply s i)

/-! ### Start Job (R117) -/

/-- A station at an accepted Start Job (R90, R91, R106): its mode, slot in force, set and has-printed flag. -/
def Station.starting (st : Station) (i : SlotIx) (m : Mode) : Station :=
  { st with mode := m, slot := some i, reasons := st.reasons.forMode m, hasPrinted := false }

/-- A station's hold count recomputed from the track (R102, R117 step 5). -/
def recomputeHold (k : StationIx) (s : State) : State :=
  let n := s.seamsUnder k
  let st := s.station k
  s.putStation k { st with hold := n, reasons := st.reasons.set .seam (0 < n) }

/-- An accepted Start Job (R117, R133). -/
def beginJob (i : SlotIx) (j : Job) (s : State) : State :=
  let s := s.putSlot i (s.slot i).toActive
  let s := s.putStations (Vector.ofFn fun k => s.stations[k].starting i j.entries[k].mode)
  let s := allStations.foldl (fun s k => flushChannel k s) s
  let s := s.installedStations.foldl (fun s k => recomputeHold k s) s
  let s := allStations.foldl (fun s k => judgeStation k s) s
  startSupervision s

/-- Start Job (R117). -/
def startJobRule (body : List Byte) (s : State) : State × List Byte :=
  match slotOf (field body 0 1) with
  | none => (s, refuse .outOfRange)
  | some i =>
    if s.gov.state ≠ .halt then (s, refuse .lineMoving)
    else match s.geom.working with
      | none => (s, refuse .noGeometry)
      | some g =>
        if s.jobActive then (s, refuse .jobActive)
        else match (s.slot i).job with
          | none => (s, refuse .empty)
          | some j =>
            match smallestItem (j.beyondInstalled g.installed) with
            | some item => (s, refuseItem item)
            | none => (beginJob i j s, refuse .ok)

/-! ### End Job (R118) -/

/-- What an owner of spans does at End Job (R118 steps 2 and 3, R134). -/
def endOwner (o : Owner) (s : State) : State :=
  match o with
  | .station k => takeMode k .off none false s
  | .channel k => judgeAtNip k (s.putChannel k ((s.channel k).flushed .unused))
  | .oven => endSupervision s

/-- An accepted End Job, its owners in the order that `code` selects (R118; log entry 4). -/
def finishJob (i : SlotIx) (code : Nat) (s : State) : State :=
  (permute code allOwners).foldl (fun s o => endOwner o s) (s.putSlot i (s.slot i).toLoaded)

/-- End Job (R118). -/
def endJobRule (s : State) : State × List Byte :=
  if s.gov.state ≠ .halt then (s, refuse .lineMoving)
  else match s.activeSlot with
    | none => (s, refuse .noJob)
    | some i =>
      if s.changeover.state ≠ .none then (s, refuse .busy)
      else (withFreeOrder (finishJob i) s, refuse .ok)

/-! ### Stage Job and Cancel Stage (R119, R125) -/

/-- An accepted Stage Job (R119, R136). -/
def stage (old i : SlotIx) (jOld : Job) (s : State) : State :=
  takeDwell ((s.putSlot i (s.slot i).toStaged).putChangeover (Changeover.stagedFrom old i jOld))

/-- Checks 8 and 9 of Stage Job, and its acceptance (R119). -/
def stageChecked (old i : SlotIx) (jOld jNew : Job) (s : State) : State × List Byte :=
  if jNew.rpt ≠ jOld.rpt then (s, reply .screenChange [0])
  else match smallestItem (screenChanges s.installedStations jOld jNew) with
    | some k => (s, reply .screenChange [byte k])
    | none => (stage old i jOld s, refuse .ok)

/-- Stage Job (R119).  Where check 7 fails at several stations the smallest mode item is answered, as R117 says for Start Job (DEDUCED, log
entry 33: R119 says only "that station's mode item"). -/
def stageJobRule (body : List Byte) (s : State) : State × List Byte :=
  match slotOf (field body 0 1) with
  | none => (s, refuse .outOfRange)
  | some i =>
    match s.geom.working with
    | none => (s, refuse .noGeometry)
    | some g =>
      match s.activeSlot, s.activeJob with
      | some old, some jOld =>
        if s.changeover.state ≠ .none then (s, refuse .busy)
        else match (s.slot i).job with
          | none => (s, refuse .empty)
          | some jNew =>
            if old = i then (s, refuse .slotInUse)
            else match smallestItem (jNew.beyondInstalled g.installed) with
              | some item => (s, refuseItem item)
              | none => stageChecked old i jOld jNew s
      | _, _ => (s, refuse .noJob)

/-- The binding removed from the bound seam (R125). -/
def Tag.unbound (t : Tag) : Tag :=
  match t.kind with
  | .seam _ => { t with kind := .seam none }
  | _ => t

/-- An accepted Cancel Stage (R125, R136). -/
def unstage (s : State) : State :=
  let s := match s.changeover.state, s.changeover.boundSeam with
    | .bound, some b => s.putTags (mapTag b.id (·.unbound) s.tags)
    | _, _ => s
  let s := match s.changeover.stagedSlot with
    | some i => s.putSlot i (s.slot i).toLoaded
    | none => s
  takeDwell (s.putChangeover Changeover.cleared)

/-- Cancel Stage (R125). -/
def cancelStageRule (s : State) : State × List Byte :=
  match s.changeover.state with
  | .none => (s, refuse .empty)
  | .settling => (s, refuse .tooLate)
  | .pending | .bound => if s.changeover.noneSwitched then (unstage s, refuse .ok) else (s, refuse .tooLate)

end Sys2Proof.Machine
end

