-- ==== Sys2Proof/Machine/LineRequests.lean ====
section
/-! DEFINITION. What the requests to the governor (R151 to R160), the stations (R99, R109 to R111), the track and the
reports (R23 to R26, R40, R41, R56) and the scanner (R172 to R176) answer and do, given their bodies at the right length. -/
namespace Sys2Proof.Machine

/-! ### Governor -/

/-- Set Speed Target (R152). -/
def setSpeedTargetRule (body : List Byte) (s : State) : State × List Byte :=
  let v := field body 0 2
  let s := s.putGov { s.gov with target := min v 20000 }
  (s, targetReply s (decide (20000 < v)))

/-- Run (R151). -/
def runRule (s : State) : State × List Byte :=
  match s.gov.state with
  | .run => (s, refuse .ok)
  | .halting | .jog => (s, refuse .lineMoving)
  | .tripping | .tripped => (s, refuseCause s.gov.causes.word)
  | .halt =>
    if !s.jobActive then (s, refuse .noJob)
    else if !s.debounced estopPoint then (s, refuseCause 1)
    else if !s.debounced mainDrivePoint then (s, refuseCause 2)
    else if !s.debounced batcherPoint then (s, refuseCause batcherBit)
    else (enterRun s, refuse .ok)

/-- Halt (R153). -/
def haltRule (s : State) : State × List Byte := (s.putGov s.gov.halted, refuse .ok)

/-- A Jog taken in HALT or JOG (R155, R156). -/
def jogChecked (dir : Direction) (duration : Nat) (s : State) : State × List Byte :=
  if !s.geometryValid then (s, refuse .noGeometry)
  else if !s.debounced estopPoint then (s, refuseCause 1)
  else if !s.debounced mainDrivePoint then (s, refuseCause 2)
  else (takeJog dir (min duration 1000) s, jogReply (min duration 1000) (decide (1000 < duration)))

/-- Jog (R155). -/
def jogRule (body : List Byte) (s : State) : State × List Byte :=
  match directionOf (field body 0 1) with
  | none => (s, refuse .outOfRange)
  | some dir =>
    match s.gov.state with
    | .run | .halting => (s, refuse .lineMoving)
    | .tripping | .tripped => (s, refuseCause s.gov.causes.word)
    | .halt | .jog => jogChecked dir (field body 1 2) s

/-- The cause conditions that hold, as a cause word (R160). -/
def State.causeConditions (s : State) : Nat :=
  (!s.debounced estopPoint).toNat + 2 * (!s.debounced mainDrivePoint).toNat + 64 * s.web.reverseLimit.toNat
    + 128 * s.web.webLimit.toNat
    + stationBit * (s.installedStations.any (fun k => (s.station k).state == .stuck)).toNat

/-- Clear Trip (R160). -/
def clearTripRule (s : State) : State × List Byte :=
  match s.gov.state with
  | .tripping => (s, refuse .lineMoving)
  | .halt | .run | .halting | .jog => (s, refuse .ok)
  | .tripped =>
    if s.causeConditions = 0 then (s.putGov s.gov.cleared, refuse .ok) else (s, refuseCause s.causeConditions)

/-! ### Stations -/

/-- The checks of Lift Station and Lower Station, and the change that passes them (R109, R110). -/
def operatorRule (hold : Bool) (body : List Byte) (s : State) : State × List Byte :=
  match stationOf (field body 0 1) with
  | none => (s, refuse .outOfRange)
  | some k =>
    if !s.jobActive then (s, refuse .noJob)
    else if (s.station k).mode = .off ∨ s.installed k = false then (s, refuse .offStation)
    else
      let s := setReason k .operator hold s
      (s, stationStateReply s k)

/-- Clear Station Fault (R99). -/
def clearStationFaultRule (body : List Byte) (s : State) : State × List Byte :=
  match stationOf (field body 0 1) with
  | none => (s, refuse .outOfRange)
  | some k =>
    if !s.installed k then (s, refuse .offStation)
    else if s.downTrue k && s.upTrue k then (s, refuseCause bothEndsBit)
    else
      let s := if (s.station k).state = .stuck then leaveStuck k s else s
      (s, stationStateReply s k)

/-- Get Station (R111, R88). -/
def getStationRule (body : List Byte) (s : State) : State × List Byte :=
  match stationOf (field body 0 1) with
  | none => (s, refuse .outOfRange)
  | some k => (s, getStationReply s k)

/-! ### Track and reports -/

/-- The reply that carries a tag id (section 11.3). -/
def idReply (n : Nat) : List Byte := reply .ok (beBytes 2 n)

/-- Declare Roll with option QUEUE (R23). -/
def declareQueue (rollId declared : Nat) (s : State) : State × List Byte :=
  if s.track.declarations.length < Config.declarationPlaces then
    (s.putTrack { s.track with declarations := s.track.declarations ++ [⟨rollId, declared⟩] }, idReply 0)
  else (s, refuse .full)

/-- Declare Roll with option HERE (R24). -/
def declareHere (rollId declared : Nat) (s : State) : State × List Byte :=
  if !s.geometryValid then (s, refuse .noGeometry)
  else
    let r := insertTag (.rollHead ⟨rollId, declared, s.activeJobId⟩) s.front none s
    if r.2 = 0 then (r.1, refuse .full) else (r.1, idReply r.2)

/-- Declare Roll (R23, R24). -/
def declareRollRule (body : List Byte) (s : State) : State × List Byte :=
  match field body 0 1 with
  | 0 => declareQueue (field body 1 4) (field body 5 2) s
  | 1 => declareHere (field body 1 4) (field body 5 2) s
  | _ => (s, refuse .outOfRange)

/-- Insert Marker (R26). -/
def insertMarkerRule (body : List Byte) (s : State) : State × List Byte :=
  let p := field body 2 4
  match s.geom.working with
  | none => (s, refuse .noGeometry)
  | some g =>
    if g.exitPos < p then (s, refuse .outOfRange)
    else
      let r := insertTag (.marker (field body 0 2)) (s.fabricAt p) none s
      if r.2 = 0 then (r.1, refuse .full) else (r.1, idReply r.2)

/-- Read Track (R40). -/
def readTrackRule (body : List Byte) (s : State) : State × List Byte :=
  let start := field body 0 1
  if 127 < start then (s, refuse .outOfRange) else (s, trackReply s start)

/-- Track Reset (R41). -/
def trackResetRule (s : State) : State × List Byte :=
  if s.gov.state ≠ .halt then (s, refuse .lineMoving) else (doTrackReset s, refuse .ok)

/-- Fetch Roll Report (R56). -/
def fetchRollReportRule (s : State) : State × List Byte :=
  match s.reports.queue with
  | [] => (s, reply .empty (reportSummary s.reports))
  | r :: rest =>
    let s := s.putReports { s.reports with queue := rest }
    (s, reply .ok (reportSummary s.reports ++ r.bytes))

/-! ### Scanner -/

/-- Arm Group (R172). -/
def armGroupRule (body : List Byte) (s : State) : State × List Byte :=
  match groupOf (field body 0 1) with
  | none => (s, refuse .outOfRange)
  | some g => (setArmed g true s, armReply s g)

/-- Disarm Group (R173). -/
def disarmGroupRule (body : List Byte) (s : State) : State × List Byte :=
  match groupOf (field body 0 1) with
  | none => (s, refuse .outOfRange)
  | some g => (setArmed g false s, refuse .ok)

/-- Read Point (R175). -/
def readPointRule (body : List Byte) (s : State) : State × List Byte :=
  match pointOf (field body 0 1) with
  | none => (s, refuse .outOfRange)
  | some p => (s, pointReply s p)

/-- Census (R176). -/
def censusRule (s : State) : State × List Byte := (s, censusReply s)

/-- Fetch Changes (R174). -/
def fetchChangesRule (s : State) : State × List Byte :=
  match s.scan.queue with
  | [] => (s, changesReply s .empty [])
  | r :: rest =>
    let out := (r :: rest).take 16
    let s := s.putScan { s.scan with queue := (r :: rest).drop 16 }
    (s, changesReply s .ok out)

end Sys2Proof.Machine
end

