-- ==== Sys2Proof/Machine/LinkRequests.lean ====
section
/-! DEFINITION. The requests of the line link itself (R187, R190 to R193), and the judging of a request by readiness, kind,
length and its own rule (R182, R183, R195). -/
namespace Sys2Proof.Machine

/-- Bit n of a 24-bit mask of notice kinds (section 11.1). -/
def maskBit (m : Nat) (n : NoticeNo) : Bool := m.testBit n.val

/-- Subscribe (R190). -/
def subscribeRule (body : List Byte) (s : State) : State × List Byte :=
  let s := s.putLink { s.link with subscribed := Vector.ofFn fun n => maskBit (field body 0 3) n }
  (s, subscribeReply s)

/-- A kind named by Acknowledge Notices with its bit in the value (R191). -/
def Notice.acknowledged (x : Notice) (set : Bool) : Notice :=
  if set then
    if x.pending then x else x.latched none
  else Notice.clear

/-- Acknowledge Notices (R191). -/
def acknowledgeRule (body : List Byte) (s : State) : State × List Byte :=
  let s := s.putLink { s.link with
    notices := Vector.ofFn fun n =>
      if maskBit (field body 0 3) n then s.link.notices[n].acknowledged (maskBit (field body 3 3) n)
      else s.link.notices[n] }
  (s, acknowledgeReply s)

/-- Restart (R187): an accepted one takes effect when its reply has been sent. -/
def restartRule (s : State) : State × List Byte :=
  match s.gov.state with
  | .halt | .tripped => (s.putLink { s.link with restart := .answering }, refuse .ok)
  | .run | .halting | .jog | .tripping => (s, refuse .lineMoving)

/-- A rule's answer as a reply formed now. -/
def answered (r : State × List Byte) : State × Option (List Byte) := (r.1, some r.2)

/-- The own rule of a request of the right length (R182 step 4): the state after it, and its reply if it is formed now. -/
def ownRule (r : RequestKind) (body : List Byte) (s : State) : State × Option (List Byte) :=
  match r with
  | .identify => answered (s, identifyReply s)
  | .getStatus => answered (s, statusReply s)
  | .setGeometry => answered (setGeometryRule body s)
  | .getGeometry => answered (getGeometryRule body s)
  | .saveGeometry => saveGeometryRule s
  | .loadJob => answered (loadJobRule body s)
  | .readJob => answered (readJobRule body s)
  | .startJob => answered (startJobRule body s)
  | .endJob => answered (endJobRule s)
  | .stageJob => answered (stageJobRule body s)
  | .cancelStage => answered (cancelStageRule s)
  | .setSpeedTarget => answered (setSpeedTargetRule body s)
  | .run => answered (runRule s)
  | .halt => answered (haltRule s)
  | .jog => answered (jogRule body s)
  | .clearTrip => answered (clearTripRule s)
  | .liftStation => answered (operatorRule true body s)
  | .lowerStation => answered (operatorRule false body s)
  | .clearStationFault => answered (clearStationFaultRule body s)
  | .getStation => answered (getStationRule body s)
  | .declareRoll => answered (declareRollRule body s)
  | .insertMarker => answered (insertMarkerRule body s)
  | .readTrack => answered (readTrackRule body s)
  | .trackReset => answered (trackResetRule s)
  | .fetchRollReport => answered (fetchRollReportRule s)
  | .armGroup => answered (armGroupRule body s)
  | .disarmGroup => answered (disarmGroupRule body s)
  | .readPoint => answered (readPointRule body s)
  | .census => answered (censusRule s)
  | .fetchChanges => answered (fetchChangesRule s)
  | .subscribe => answered (subscribeRule body s)
  | .acknowledgeNotices => answered (acknowledgeRule body s)
  | .restart => answered (restartRule s)

/-- A request judged by its kind and its length (R182 steps 2 to 4, R195). -/
def judgeKind (f : Frame) (s : State) : State × Option (List Byte) :=
  match requestOf f.kind with
  | none => answered (s, refuse .unknownKind)
  | some r =>
    if f.body.length = r.bodyLength then ownRule r f.body s
    else answered (s, reply .badLength (beBytes 2 r.bodyLength))

/-- A request judged (R182, R186, R195). -/
def judgeRequest (f : Frame) (s : State) : State × Option (List Byte) :=
  match s.link.state with
  | .starting => if f.kind = RequestKind.identify.byte then judgeKind f s else answered (s, refuse .notReady)
  | .ready => judgeKind f s

/-- The kind of a reply (R183). -/
def replyKind (kind : Byte) : Byte := if kind < 0x80 then kind + 0x80 else 0xFF

/-- The reply frame of a request frame (R183). -/
def replyFrame (f : Frame) (body : List Byte) : Frame := ⟨replyKind f.kind, f.tag, body⟩

end Sys2Proof.Machine
end

