-- ==== Sys2Proof/Machine/Link.lean ====
section
/-! DEFINITION. The line link (spec/10): the transmitter (R184, R189), taking requests (R182), the receive queue (R181), the
receiver with its discards and rescans (R179, R180), and what the link does when a frame has been sent. -/
namespace Sys2Proof.Machine

/-! ### The transmitter (R184, R189) -/

/-- The transmission of notice n begins: its frame is taken as the kind stands, its sent flag is set and the count rises
(R184, R189). -/
def beginNotice (n : NoticeNo) (s : State) : State :=
  let x := s.notice n
  let s := s.putNotice n { x with sent := true }
  s.putLink { s.link with sending := some (.notice n (noticeFrame n x)), noticesSent := satInc s.link.noticesSent }

/-- The transmission of the waiting reply begins. -/
def beginReply (f : Frame) (s : State) : State := s.putLink { s.link with sending := some (.reply f), waiting := none }

/-- The transmitter is free to begin a frame: none is on the line, and no Restart is due (R184, R187). -/
def Link.free (l : Link) : Bool := l.sending.isNone && l.restart != .due

/-- The transmitter chooses (R184): the owed notice with the lowest number, otherwise the waiting reply. -/
def transmit (s : State) : State :=
  if s.link.free then
    match s.link.firstOwed, s.link.waiting with
    | some n, _ => beginNotice n s
    | none, some f => beginReply f s
    | none, none => s
  else s

/-- An owed notice begins while the transmitter is free (R184, R189). -/
def sendNotice (s : State) : State :=
  if s.link.free then
    match s.link.firstOwed with
    | some n => beginNotice n s
    | none => s
  else s

/-! ### Taking requests (R182) -/

/-- The reply to the request frame f is offered to the transmitter (R182, R183). -/
def offerReply (f : Frame) (body : List Byte) (s : State) : State :=
  transmit (s.putLink { s.link with waiting := some (replyFrame f body) })

/-- The request f is taken: counted, judged, and its reply offered when it is formed (R182, R194).  It is counted before it is
judged, so that the requests-taken count in a Get Status reply includes that Get Status (DESIGN CHOICE, log entry 28). -/
def takeRequest (f : Frame) (s : State) : State :=
  let r := judgeRequest f (s.putLink { s.link with requestsTaken := satInc s.link.requestsTaken })
  match r.2 with
  | some body => offerReply f body r.1
  | none => r.1

/-- The head of the receive queue is taken (R182). -/
def takeHead (s : State) : State :=
  match s.link.queue with
  | [] => s
  | f :: _ => takeRequest f s

/-! ### The receive queue (R181) -/

/-- A complete frame with a good CRC: appended, and taken at once when the queue was empty; lost when the queue is full
(R181, R182). -/
def receiveFrame (f : Frame) (s : State) : State :=
  if s.link.queue.length < Config.receivePlaces then
    let s' := s.putLink { s.link with queue := s.link.queue ++ [f] }
    if s.link.queue.isEmpty && s.link.restart != .due then takeHead s' else s'
  else
    latch (.linkOverrun f.kind f.tag) (s.putLink { s.link with overruns := satInc s.link.overruns })

/-! ### The receiver (R179, R180) -/

/-- What stands judged of the bytes gathered after the start byte: nothing yet, a length error, or a complete frame. -/
inductive Gathered where
  | partly | tooLong | whole (f : Frame) (good : Bool)
  deriving DecidableEq, Repr

/-- The bytes gathered after the start byte, judged (R178, R179, R180). -/
def judgeBytes (bytes : List Byte) : Gathered :=
  if bytes.length < 2 then .partly
  else
    let n := field bytes 0 2
    if Config.largestBody < n then .tooLong
    else if bytes.length < n + 6 then .partly
    else
      match bytes.drop 2 with
      | kind :: tag :: rest => .whole ⟨kind, tag, rest.take n⟩ (decide (rest.drop n = crcBytes (bytes.take (n + 4))))
      | _ => .partly

/-- One more byte at the receiver (R179). -/
def gather (b : Byte) (r : Option Gathering) : Option Gathering :=
  match r with
  | none => if b = 0xA5 then some ⟨[], 0⟩ else none
  | some g => some ⟨g.bytes ++ [b], 0⟩

def State.putReceiver (s : State) (r : Option Gathering) : State := s.putLink { s.link with receiver := r }

/-- The counter and the latch of a discard (R180). -/
def countDiscard (c : LinkFault) (s : State) : State :=
  latch (.linkError c) (s.putLink
    (match c with
     | .length => { s.link with lengthErrors := satInc s.link.lengthErrors }
     | .gap => { s.link with gapErrors := satInc s.link.gapErrors }
     | .crc => { s.link with crcErrors := satInc s.link.crcErrors }))

/-- The bytes received anew by a rescan, without gap timing, each further discard with its own rescan (R180).  The first
argument bounds the bytes passed over. -/
def rescanFor : Nat → List Byte → State → State
  | 0, _, s => s
  | _ + 1, [], s => s
  | fuel + 1, b :: rest, s =>
    match gather b s.link.receiver with
    | none => rescanFor fuel rest (s.putReceiver none)
    | some g =>
      match judgeBytes g.bytes with
      | .partly => rescanFor fuel rest (s.putReceiver (some g))
      | .tooLong => rescanFor fuel (g.bytes ++ rest) (countDiscard .length (s.putReceiver none))
      | .whole f true => rescanFor fuel rest (receiveFrame f (s.putReceiver none))
      | .whole _ false => rescanFor fuel (g.bytes ++ rest) (countDiscard .crc (s.putReceiver none))

/-- A rescan: every discard leaves one byte fewer, so this many steps suffice. -/
def rescan (bytes : List Byte) (s : State) : State := rescanFor ((bytes.length + 1) * (bytes.length + 1)) bytes s

/-- A frame in progress is discarded (R180). -/
def discard (c : LinkFault) (bytes : List Byte) (s : State) : State :=
  rescan bytes (countDiscard c (s.putReceiver none))

/-- The bytes gathered so far, when a frame is in progress. -/
def Link.gathered (l : Link) : List Byte :=
  match l.receiver with
  | some g => g.bytes
  | none => []

/-- The length error is taken, when it is due (R180). -/
def takeLengthError (s : State) : State :=
  match judgeBytes s.link.gathered with
  | .tooLong => discard .length s.link.gathered s
  | .partly | .whole _ _ => s

/-- The complete frame is checked, when it is due (R179, R180, R181). -/
def takeComplete (s : State) : State :=
  match judgeBytes s.link.gathered with
  | .whole f true => receiveFrame f (s.putReceiver none)
  | .whole _ false => discard .crc s.link.gathered s
  | .partly | .tooLong => s

/-- A judgement that is due is taken before the receiver does anything else (log entry 2). -/
def settleReceiver (s : State) : State := takeComplete (takeLengthError s)

/-- A byte arrives (R179). -/
def byteArrived (b : Byte) (s : State) : State :=
  let s := settleReceiver s
  s.putReceiver (gather b s.link.receiver)

/-- The gap timer passes 5 ms in FRAME (R180). -/
def gapPassed (s : State) : State :=
  match s.link.receiver, judgeBytes s.link.gathered with
  | some g, .partly => discard .gap g.bytes s
  | some _, _ => settleReceiver s
  | none, _ => s

/-! ### A frame has been sent (R182, R184, R187) -/

/-- A reply has left: its request leaves the queue; an accepted Restart becomes due; otherwise the transmitter chooses and
the next request is taken (R182, R184, R187; log entry 15). -/
def replySent (s : State) : State :=
  let s := s.putLink { s.link with sending := none, queue := s.link.queue.drop 1 }
  match s.link.restart with
  | .answering => s.putLink { s.link with restart := .due }
  | .none | .due => takeHead (transmit s)

/-- The transmitter has sent its frame's last byte (R182, R184). -/
def frameLeft (s : State) : State :=
  match s.link.sending with
  | none => s
  | some (.notice _ _) => transmit (s.putLink { s.link with sending := none })
  | some (.reply _) => replySent s

/-- The settings store's write is complete, and the reply to its Save Geometry is formed (R7). -/
def saveComplete (s : State) : State :=
  match s.geom.writing with
  | none => s
  | some g =>
    let s := s.putGeom (s.geom.written g)
    match s.link.queue with
    | [] => s
    | f :: _ => offerReply f (refuse .ok) s

end Sys2Proof.Machine
end

