-- ==== Sys2Proof/Machine/Lifecycle.lean ====
section
/-! DEFINITION. The starts of the part (R8, R187), the end of STARTING (R167, R186) and the loss of power (R7). -/
namespace Sys2Proof.Machine

/-- A start with the given cause and strap: every block takes its starting values; the stored copy, the waiting commands and
the free counter stay (R8, R187; log entry 17). -/
def startAgain (cause : StartCause) (strap : Fin 4) (s : State) : State :=
  State.start cause strap s.geom.afterInterruption s.pending s.freeIx

/-- A Restart takes effect, when its reply has been sent (R187). -/
def restartDue (strap : Fin 4) (s : State) : State :=
  match s.link.restart with
  | .due => startAgain .restart strap s
  | .none | .answering => s

/-- Power fails: only the settings store keeps what it held (R7, R8). -/
def powerLost (s : State) : State := (startAgain .powerOn s.link.strap s).putPowered false

/-- A consumer of the scanner (R167). -/
inductive Consumer where
  | station (k : StationIx) | oven | governor | link
  deriving DecidableEq, Repr

def allConsumers : List Consumer := allStations.map .station ++ [.oven, .governor, .link]

/-- A consumer reads the debounced states of its points at the end of STARTING (R112, R137, R157, R167, R185). -/
def takeUp (c : Consumer) (s : State) : State :=
  match c with
  | .station k => takeUpPoints k s
  | .oven => takeUpBands s
  | .governor => takeUpEstop s
  | .link => s.putLink { s.link with serviceAccess := s.debounced serviceKeyPoint }

/-- The consumers take up their points in the order that `code` selects (R167; log entry 4). -/
def takeUpAll (code : Nat) (s : State) : State := (permute code allConsumers).foldl (fun s c => takeUp c s) s

/-- The conditions that end STARTING (R186). -/
def State.startingOver (s : State) : Bool := s.link.state == .starting && s.geom.storeRead && s.scan.swept

/-- The end of STARTING (R186, R167). -/
def startingEnds (s : State) : State :=
  if s.startingOver then
    withFreeOrder takeUpAll
      (latch (.restarted s.link.startCause s.geometryValid) (s.putLink { s.link with state := .ready }))
  else s

end Sys2Proof.Machine
end

