-- ==== Sys2Proof/Machine/WebMeasure.lean ====
section
/-! DEFINITION. Web measure (spec/01, R11 to R16): encoder counts, the reverse and counter limits, the readers of a new W,
measured speed and the seam detector. -/
namespace Sys2Proof.Machine

/-- The counter limit (R14): W and Wmax become 2^48 - 1. -/
def WebMeasure.atLimit (w : WebMeasure) : WebMeasure :=
  { w with w := Config.wLimit, wmax := Config.wLimit, webLimit := true }

/-- A forward count of k µm on W, Wmax and the deficit (R11, R14). -/
def WebMeasure.forward (w : WebMeasure) (k : Nat) : WebMeasure :=
  if 0 < w.deficit then
    let w' := w.w + (k - w.deficit)
    { w with deficit := w.deficit - k, w := w', wmax := max w.wmax w' }
  else if w.w + k ≤ Config.wLimit then { w with w := w.w + k, wmax := max w.wmax (w.w + k) }
  else w.atLimit

/-- A reverse count of k µm on W and the deficit (R11). -/
def WebMeasure.reverse (w : WebMeasure) (k : Nat) : WebMeasure :=
  if k ≤ w.w then { w with w := w.w - k } else { w with deficit := w.deficit + (k - w.w), w := 0 }

/-- The signed travel of a count (R11). -/
def travel (dir : Direction) (k : Nat) : Int :=
  match dir with
  | .forward => k
  | .reverse => -(k : Int)

/-- The direction set and the travel added to the running slice (R11). -/
def WebMeasure.moved (w : WebMeasure) (dir : Direction) (k : Nat) : WebMeasure :=
  { w with direction := dir, slices := w.slices.set 0 (w.slices[0] + travel dir k) }

/-- The reverse excursion (R13). -/
def WebMeasure.excursion (w : WebMeasure) : Nat := (w.wmax - w.w) + w.deficit

/-- The reverse-limit flag after a count (R13), with the reverse allowance in µm. -/
def WebMeasure.judgeReverse (w : WebMeasure) (dir : Direction) (allowance : Nat) : WebMeasure :=
  match dir with
  | .reverse => { w with reverseLimit := w.reverseLimit || decide (allowance < w.excursion) }
  | .forward => { w with reverseLimit := w.reverseLimit && w.excursion != 0 }

/-- Web measure after one count of k µm (R11, R13, R14). -/
def WebMeasure.counted (w : WebMeasure) (dir : Direction) (k allowance : Nat) : WebMeasure :=
  let w := w.moved dir k
  let w := match dir with | .forward => w.forward k | .reverse => w.reverse k
  w.judgeReverse dir allowance

/-- A reader of a new W (R12). -/
inductive Reader where
  | track | changeover | channel (k : StationIx) | oven
  deriving DecidableEq, Repr

def allReaders : List Reader := [.track, .changeover] ++ allStations.map .channel ++ [.oven]

/-- What a reader does at an advance of W (R12): the track and the changeover act at a new high-water mark only. -/
def present (raised : Bool) (r : Reader) (s : State) : State :=
  match r with
  | .track => if raised then walk s else s
  | .changeover => if raised then settlingCheck s else s
  | .channel k => expireMark k s
  | .oven => clearHaltMark s

/-- The readers act on an advance, in the order that `code` selects (R12; log entry 4). -/
def presentAll (raised : Bool) (code : Nat) (s : State) : State :=
  (permute code allReaders).foldl (fun s r => present raised r s) s

/-- The trip requests of a count (R13, R14): each is sent when its flag rises. -/
def limitTrips (before : WebMeasure) (s : State) : State :=
  let s := if s.web.reverseLimit && !before.reverseLimit then requestTrip .reverseLimit s else s
  if s.web.webLimit && !before.webLimit then requestTrip .webLimit s else s

/-- An encoder count (R11 to R14); discarded while the geometry state is NONE (R6).  The trip requests are sent before the
readers act (DESIGN CHOICE, log entry 19).  A retreat of W moves no reader. -/
def encoderCounted (dir : Direction) (s : State) : State :=
  if s.geometryValid then
    let before := s.web
    let s := limitTrips before
      (s.putWeb (before.counted dir (s.geo (·.encoderScale)) (mm (s.geo (·.allowanceMm)))))
    if before.w < s.web.w then withFreeOrder (presentAll (decide (before.wmax < s.web.wmax))) s else s
  else s

/-! ### Measured speed (R15) -/

/-- Measured speed from the sum S of the ten slices (R15). -/
def speedOf (sum : Int) : Nat := min 65535 (sum.natAbs * 6 / 100)

/-- The slices shifted: the oldest discarded, a new empty one opened (R15). -/
def shiftSlices (v : Vector Int 10) : Vector Int 10 :=
  Vector.ofFn fun i => if h : i.val = 0 then 0 else v[i.val - 1]

/-- A recompute (R15): the sum of the ten slices is that of the 100 ms just ended (DEDUCED, log entry 5); supervision then acts on the
new measured speed (R139, R142). -/
def speedRecomputed (s : State) : State :=
  ovenRecompute (s.putWeb { s.web with
    measuredSpeed := speedOf (s.web.slices.toList.foldl (· + ·) 0), slices := shiftSlices s.web.slices })

/-! ### The seam detector (R16) -/

/-- The conditions under which a seam detection is taken (R16). -/
def State.seamAccepted (s : State) : Bool :=
  s.geometryValid && s.web.direction == .forward && s.web.w == s.web.wmax && s.web.deficit == 0
    && (match s.web.lastSeam with
        | none => true
        | some l => mm (s.geo (·.holdOffMm)) ≤ s.web.w - l)

/-- A seam detection (R16). -/
def seamDetected (s : State) : State :=
  if s.seamAccepted then
    takeSeam s.web.w
      (s.putWeb { s.web with lastSeam := some s.web.w, seamsTaken := satInc s.web.seamsTaken })
  else s.putWeb { s.web with seamsIgnored := satInc s.web.seamsIgnored }

end Sys2Proof.Machine
end

