-- ==== Sys2Proof/Machine/Events.lean ====
section
/-! DEFINITION. The meanings of the commands that are events: of the field wiring, of the part's time base and of the line. -/
namespace Sys2Proof.Machine

/-! ### Lifecycle -/

/-- POWER_ON (R8): power is applied, whatever stood before. -/
def execPowerOn (strap : Fin 4) (s : State) : Host.Outcome State Fault Refusal := .next (startAgain .powerOn strap s)

/-- RESET_INPUT (R187): acts at once. -/
def execResetInput (strap : Fin 4) (s : State) : Host.Outcome State Fault Refusal :=
  act s (startAgain .resetInput strap)

/-- SETTINGS_STORE_READ (R8). -/
def execSettingsStoreRead (s : State) : Host.Outcome State Fault Refusal := act s storeReadDone

/-- END_OF_STARTING (R186). -/
def execEndOfStarting (s : State) : Host.Outcome State Fault Refusal := act s startingEnds

/-- RESTART_TAKES_EFFECT (R187). -/
def execRestartTakesEffect (strap : Fin 4) (s : State) : Host.Outcome State Fault Refusal := act s (restartDue strap)

/-- POWER_FAIL (R7). -/
def execPowerFail (s : State) : Host.Outcome State Fault Refusal := act s powerLost

/-! ### Scanner and web measure -/

/-- SWEEP (R164). -/
def execSweep (samples : BitVec 128) (s : State) : Host.Outcome State Fault Refusal := act s (sweepDone samples)

/-- ENCODER_COUNT (R11). -/
def execEncoderCount (dir : Direction) (s : State) : Host.Outcome State Fault Refusal := act s (encoderCounted dir)

/-- SEAM_DETECTION (R16). -/
def execSeamDetection (s : State) : Host.Outcome State Fault Refusal := act s seamDetected

/-- SPEED_RECOMPUTE (R15). -/
def execSpeedRecompute (s : State) : Host.Outcome State Fault Refusal := act s speedRecomputed

/-! ### Register channels; the inputs of a station above N are disregarded (R59) -/

/-- MARK_DETECTION (R65). -/
def execMarkDetection (k : StationIx) (s : State) : Host.Outcome State Fault Refusal := act s (markSeen k)

/-- SCREEN_ENCODER_COUNT (R61). -/
def execScreenEncoderCount (k : StationIx) (dir : Direction) (s : State) : Host.Outcome State Fault Refusal :=
  act s (fun s => if s.installed k then screenCount k dir s else s)

/-- INDEX_PULSE (R62). -/
def execIndexPulse (k : StationIx) (s : State) : Host.Outcome State Fault Refusal :=
  act s (fun s => if s.installed k then indexTaken k s else s)

/-- TRIM_DONE (R77).  A done at a station above N is disregarded (R59) even when it names a trim issued before the accepted Set Geometry
that made the station uninstalled, so that such a flight ends at its timeout (DESIGN CHOICE, log entry 32: R87 keeps the flight
"until done or timeout"). -/
def execTrimDone (k : StationIx) (number : Byte) (s : State) : Host.Outcome State Fault Refusal :=
  act s (fun s => if s.installed k then trimDoneSeen k number.toNat s else s)

/-- TRIM_TIMEOUT (R79). -/
def execTrimTimeout (k : StationIx) (s : State) : Host.Outcome State Fault Refusal := act s (trimExpired k)

/-! ### Stations, oven and governor -/

/-- LOWER_TIMEOUT (R96). -/
def execLowerTimeout (k : StationIx) (s : State) : Host.Outcome State Fault Refusal := act s (lowerExpired k)

/-- RAISE_TIMEOUT (R97). -/
def execRaiseTimeout (k : StationIx) (s : State) : Host.Outcome State Fault Refusal := act s (raiseExpired k)

/-- HALT_DWELL_EXPIRY (R143): the halt timer must be running (log entry 18). -/
def execHaltDwellExpiry (s : State) : Host.Outcome State Fault Refusal :=
  act s (fun s => if s.oven.operating && s.oven.haltTimer.isSome then haltExpired s else s)

/-- PERSISTENCE_EXPIRY (R140). -/
def execPersistenceExpiry (s : State) : Host.Outcome State Fault Refusal := act s persistenceExpired

/-- GOVERNOR_UPDATE (R149). -/
def execGovernorUpdate (s : State) : Host.Outcome State Fault Refusal := act s governorUpdated

/-- JOG_TIMER_EXPIRY (R156). -/
def execJogTimerExpiry (s : State) : Host.Outcome State Fault Refusal := act s (fun s => s.putGov s.gov.jogExpired)

/-! ### Line -/

/-- BYTE_RECEIVED (R179). -/
def execByteReceived (b : Byte) (s : State) : Host.Outcome State Fault Refusal := act s (byteArrived b)

/-- LENGTH_ERROR (R180). -/
def execLengthError (s : State) : Host.Outcome State Fault Refusal := act s takeLengthError

/-- GAP_TIMEOUT (R180). -/
def execGapTimeout (s : State) : Host.Outcome State Fault Refusal := act s gapPassed

/-- FRAME_RECEIVED (R181). -/
def execFrameReceived (s : State) : Host.Outcome State Fault Refusal := act s takeComplete

/-- NOTICE_FRAME_SEND (R184). -/
def execNoticeFrameSend (s : State) : Host.Outcome State Fault Refusal := act s sendNotice

/-- FRAME_SENT (R182). -/
def execFrameSent (s : State) : Host.Outcome State Fault Refusal := act s frameLeft

/-- SAVE_GEOMETRY_COMPLETE (R7). -/
def execSaveGeometryComplete (s : State) : Host.Outcome State Fault Refusal := act s saveComplete

end Sys2Proof.Machine
end

