-- ==== Sys2Proof/Machine/Requests.lean ====
section
/-! DEFINITION. The meanings of the commands that are requests: the frame arrives whole and good, enters the receive queue
(R181), and is taken, judged and answered when it stands at the head (R182; log entry 1).  What each request does is its own
rule, in GeometryRequests.lean, JobRequests.lean, LineRequests.lean and LinkRequests.lean. -/
namespace Sys2Proof.Machine

/-- UNKNOWN_KIND (R195). -/
def execUnknownKind (kind tag : Byte) (body : List Byte) (s : State) : Host.Outcome State Fault Refusal :=
  act s (receiveFrame ⟨kind, tag, body⟩)

/-- GET_GATE_TABLE (R9): Get Geometry with selector 1. -/
def execGetGateTable (tag : Byte) (s : State) : Host.Outcome State Fault Refusal :=
  act s (receiveFrame (requestFrame .getGeometry tag [0x01]))

/-- DECLARE_ROLL_HERE (R24): Declare Roll with option 1. -/
def execDeclareRollHere (tag : Byte) (fields : List Byte) (s : State) : Host.Outcome State Fault Refusal :=
  act s (receiveFrame (requestFrame .declareRoll tag (0x01 :: fields)))

/-- IDENTIFY (R192). -/
def execIdentify (tag : Byte) (body : List Byte) (s : State) : Host.Outcome State Fault Refusal :=
  act s (receiveFrame (requestFrame .identify tag body))

/-- GET_STATUS (R193). -/
def execGetStatus (tag : Byte) (body : List Byte) (s : State) : Host.Outcome State Fault Refusal :=
  act s (receiveFrame (requestFrame .getStatus tag body))

/-- SET_GEOMETRY (R5). -/
def execSetGeometry (tag : Byte) (body : List Byte) (s : State) : Host.Outcome State Fault Refusal :=
  act s (receiveFrame (requestFrame .setGeometry tag body))

/-- GET_GEOMETRY (R9). -/
def execGetGeometry (tag : Byte) (body : List Byte) (s : State) : Host.Outcome State Fault Refusal :=
  act s (receiveFrame (requestFrame .getGeometry tag body))

/-- SAVE_GEOMETRY (R7). -/
def execSaveGeometry (tag : Byte) (body : List Byte) (s : State) : Host.Outcome State Fault Refusal :=
  act s (receiveFrame (requestFrame .saveGeometry tag body))

/-- LOAD_JOB (R114). -/
def execLoadJob (tag : Byte) (body : List Byte) (s : State) : Host.Outcome State Fault Refusal :=
  act s (receiveFrame (requestFrame .loadJob tag body))

/-- READ_JOB (R116). -/
def execReadJob (tag : Byte) (body : List Byte) (s : State) : Host.Outcome State Fault Refusal :=
  act s (receiveFrame (requestFrame .readJob tag body))

/-- START_JOB (R117). -/
def execStartJob (tag : Byte) (body : List Byte) (s : State) : Host.Outcome State Fault Refusal :=
  act s (receiveFrame (requestFrame .startJob tag body))

/-- END_JOB (R118). -/
def execEndJob (tag : Byte) (body : List Byte) (s : State) : Host.Outcome State Fault Refusal :=
  act s (receiveFrame (requestFrame .endJob tag body))

/-- STAGE_JOB (R119). -/
def execStageJob (tag : Byte) (body : List Byte) (s : State) : Host.Outcome State Fault Refusal :=
  act s (receiveFrame (requestFrame .stageJob tag body))

/-- CANCEL_STAGE (R125). -/
def execCancelStage (tag : Byte) (body : List Byte) (s : State) : Host.Outcome State Fault Refusal :=
  act s (receiveFrame (requestFrame .cancelStage tag body))

/-- SET_SPEED_TARGET (R152). -/
def execSetSpeedTarget (tag : Byte) (body : List Byte) (s : State) : Host.Outcome State Fault Refusal :=
  act s (receiveFrame (requestFrame .setSpeedTarget tag body))

/-- RUN (R151). -/
def execRun (tag : Byte) (body : List Byte) (s : State) : Host.Outcome State Fault Refusal :=
  act s (receiveFrame (requestFrame .run tag body))

/-- HALT (R153). -/
def execHalt (tag : Byte) (body : List Byte) (s : State) : Host.Outcome State Fault Refusal :=
  act s (receiveFrame (requestFrame .halt tag body))

/-- JOG (R155). -/
def execJog (tag : Byte) (body : List Byte) (s : State) : Host.Outcome State Fault Refusal :=
  act s (receiveFrame (requestFrame .jog tag body))

/-- CLEAR_TRIP (R160). -/
def execClearTrip (tag : Byte) (body : List Byte) (s : State) : Host.Outcome State Fault Refusal :=
  act s (receiveFrame (requestFrame .clearTrip tag body))

/-- LIFT_STATION (R109). -/
def execLiftStation (tag : Byte) (body : List Byte) (s : State) : Host.Outcome State Fault Refusal :=
  act s (receiveFrame (requestFrame .liftStation tag body))

/-- LOWER_STATION (R110). -/
def execLowerStation (tag : Byte) (body : List Byte) (s : State) : Host.Outcome State Fault Refusal :=
  act s (receiveFrame (requestFrame .lowerStation tag body))

/-- CLEAR_STATION_FAULT (R99). -/
def execClearStationFault (tag : Byte) (body : List Byte) (s : State) : Host.Outcome State Fault Refusal :=
  act s (receiveFrame (requestFrame .clearStationFault tag body))

/-- GET_STATION (R111). -/
def execGetStation (tag : Byte) (body : List Byte) (s : State) : Host.Outcome State Fault Refusal :=
  act s (receiveFrame (requestFrame .getStation tag body))

/-- DECLARE_ROLL_QUEUE (R23). -/
def execDeclareRollQueue (tag : Byte) (body : List Byte) (s : State) : Host.Outcome State Fault Refusal :=
  act s (receiveFrame (requestFrame .declareRoll tag body))

/-- INSERT_MARKER (R26). -/
def execInsertMarker (tag : Byte) (body : List Byte) (s : State) : Host.Outcome State Fault Refusal :=
  act s (receiveFrame (requestFrame .insertMarker tag body))

/-- READ_TRACK (R40). -/
def execReadTrack (tag : Byte) (body : List Byte) (s : State) : Host.Outcome State Fault Refusal :=
  act s (receiveFrame (requestFrame .readTrack tag body))

/-- TRACK_RESET (R41). -/
def execTrackReset (tag : Byte) (body : List Byte) (s : State) : Host.Outcome State Fault Refusal :=
  act s (receiveFrame (requestFrame .trackReset tag body))

/-- FETCH_ROLL_REPORT (R56). -/
def execFetchRollReport (tag : Byte) (body : List Byte) (s : State) : Host.Outcome State Fault Refusal :=
  act s (receiveFrame (requestFrame .fetchRollReport tag body))

/-- ARM_GROUP (R172). -/
def execArmGroup (tag : Byte) (body : List Byte) (s : State) : Host.Outcome State Fault Refusal :=
  act s (receiveFrame (requestFrame .armGroup tag body))

/-- DISARM_GROUP (R173). -/
def execDisarmGroup (tag : Byte) (body : List Byte) (s : State) : Host.Outcome State Fault Refusal :=
  act s (receiveFrame (requestFrame .disarmGroup tag body))

/-- READ_POINT (R175). -/
def execReadPoint (tag : Byte) (body : List Byte) (s : State) : Host.Outcome State Fault Refusal :=
  act s (receiveFrame (requestFrame .readPoint tag body))

/-- CENSUS (R176). -/
def execCensus (tag : Byte) (body : List Byte) (s : State) : Host.Outcome State Fault Refusal :=
  act s (receiveFrame (requestFrame .census tag body))

/-- FETCH_CHANGES (R174). -/
def execFetchChanges (tag : Byte) (body : List Byte) (s : State) : Host.Outcome State Fault Refusal :=
  act s (receiveFrame (requestFrame .fetchChanges tag body))

/-- SUBSCRIBE (R190). -/
def execSubscribe (tag : Byte) (body : List Byte) (s : State) : Host.Outcome State Fault Refusal :=
  act s (receiveFrame (requestFrame .subscribe tag body))

/-- ACKNOWLEDGE_NOTICES (R191). -/
def execAcknowledgeNotices (tag : Byte) (body : List Byte) (s : State) : Host.Outcome State Fault Refusal :=
  act s (receiveFrame (requestFrame .acknowledgeNotices tag body))

/-- RESTART (R187). -/
def execRestart (tag : Byte) (body : List Byte) (s : State) : Host.Outcome State Fault Refusal :=
  act s (receiveFrame (requestFrame .restart tag body))

end Sys2Proof.Machine
end

