-- ==== Sys2Proof/Machine/Dispatch.lean ====
section
/-! DEFINITION. The dispatch: one arm per command, each one direct call of its meaning. -/
namespace Sys2Proof.Machine

/-- The effect of a command on everything but the queue of waiting commands. -/
def exec (i : Instr) (s : State) : Host.Outcome State Fault Refusal :=
  match i with
  | .powerOn strap => Sys2Proof.Machine.execPowerOn strap s
  | .resetInput strap => Sys2Proof.Machine.execResetInput strap s
  | .settingsStoreRead => Sys2Proof.Machine.execSettingsStoreRead s
  | .endOfStarting => Sys2Proof.Machine.execEndOfStarting s
  | .sweep samples => Sys2Proof.Machine.execSweep samples s
  | .encoderCount dir => Sys2Proof.Machine.execEncoderCount dir s
  | .seamDetection => Sys2Proof.Machine.execSeamDetection s
  | .markDetection k => Sys2Proof.Machine.execMarkDetection k s
  | .screenEncoderCount k dir => Sys2Proof.Machine.execScreenEncoderCount k dir s
  | .indexPulse k => Sys2Proof.Machine.execIndexPulse k s
  | .trimDone k number => Sys2Proof.Machine.execTrimDone k number s
  | .trimTimeout k => Sys2Proof.Machine.execTrimTimeout k s
  | .lowerTimeout k => Sys2Proof.Machine.execLowerTimeout k s
  | .raiseTimeout k => Sys2Proof.Machine.execRaiseTimeout k s
  | .speedRecompute => Sys2Proof.Machine.execSpeedRecompute s
  | .haltDwellExpiry => Sys2Proof.Machine.execHaltDwellExpiry s
  | .persistenceExpiry => Sys2Proof.Machine.execPersistenceExpiry s
  | .governorUpdate => Sys2Proof.Machine.execGovernorUpdate s
  | .jogTimerExpiry => Sys2Proof.Machine.execJogTimerExpiry s
  | .lengthError => Sys2Proof.Machine.execLengthError s
  | .gapTimeout => Sys2Proof.Machine.execGapTimeout s
  | .frameReceived => Sys2Proof.Machine.execFrameReceived s
  | .noticeFrameSend => Sys2Proof.Machine.execNoticeFrameSend s
  | .unknownKind kind tag body => Sys2Proof.Machine.execUnknownKind kind tag body s
  | .identify tag body => Sys2Proof.Machine.execIdentify tag body s
  | .getStatus tag body => Sys2Proof.Machine.execGetStatus tag body s
  | .setGeometry tag body => Sys2Proof.Machine.execSetGeometry tag body s
  | .getGeometry tag body => Sys2Proof.Machine.execGetGeometry tag body s
  | .getGateTable tag => Sys2Proof.Machine.execGetGateTable tag s
  | .saveGeometry tag body => Sys2Proof.Machine.execSaveGeometry tag body s
  | .saveGeometryComplete => Sys2Proof.Machine.execSaveGeometryComplete s
  | .loadJob tag body => Sys2Proof.Machine.execLoadJob tag body s
  | .readJob tag body => Sys2Proof.Machine.execReadJob tag body s
  | .startJob tag body => Sys2Proof.Machine.execStartJob tag body s
  | .endJob tag body => Sys2Proof.Machine.execEndJob tag body s
  | .stageJob tag body => Sys2Proof.Machine.execStageJob tag body s
  | .cancelStage tag body => Sys2Proof.Machine.execCancelStage tag body s
  | .setSpeedTarget tag body => Sys2Proof.Machine.execSetSpeedTarget tag body s
  | .run tag body => Sys2Proof.Machine.execRun tag body s
  | .halt tag body => Sys2Proof.Machine.execHalt tag body s
  | .jog tag body => Sys2Proof.Machine.execJog tag body s
  | .clearTrip tag body => Sys2Proof.Machine.execClearTrip tag body s
  | .liftStation tag body => Sys2Proof.Machine.execLiftStation tag body s
  | .lowerStation tag body => Sys2Proof.Machine.execLowerStation tag body s
  | .clearStationFault tag body => Sys2Proof.Machine.execClearStationFault tag body s
  | .getStation tag body => Sys2Proof.Machine.execGetStation tag body s
  | .declareRollQueue tag body => Sys2Proof.Machine.execDeclareRollQueue tag body s
  | .declareRollHere tag fields => Sys2Proof.Machine.execDeclareRollHere tag fields s
  | .insertMarker tag body => Sys2Proof.Machine.execInsertMarker tag body s
  | .readTrack tag body => Sys2Proof.Machine.execReadTrack tag body s
  | .trackReset tag body => Sys2Proof.Machine.execTrackReset tag body s
  | .fetchRollReport tag body => Sys2Proof.Machine.execFetchRollReport tag body s
  | .armGroup tag body => Sys2Proof.Machine.execArmGroup tag body s
  | .disarmGroup tag body => Sys2Proof.Machine.execDisarmGroup tag body s
  | .readPoint tag body => Sys2Proof.Machine.execReadPoint tag body s
  | .census tag body => Sys2Proof.Machine.execCensus tag body s
  | .fetchChanges tag body => Sys2Proof.Machine.execFetchChanges tag body s
  | .subscribe tag body => Sys2Proof.Machine.execSubscribe tag body s
  | .acknowledgeNotices tag body => Sys2Proof.Machine.execAcknowledgeNotices tag body s
  | .restart tag body => Sys2Proof.Machine.execRestart tag body s
  | .restartTakesEffect strap => Sys2Proof.Machine.execRestartTakesEffect strap s
  | .byteReceived b => Sys2Proof.Machine.execByteReceived b s
  | .frameSent => Sys2Proof.Machine.execFrameSent s
  | .powerFail => Sys2Proof.Machine.execPowerFail s

end Sys2Proof.Machine
end

