-- ==== Sys2Proof/Safety.lean ====
section
/-! DEFINITION. The terms in which claims about the part are stated: what a command leaves alone, when a request is taken at
once, how it is answered, and the invariants of the blocks. -/
namespace Sys2Proof.Machine

/-! ### What a command leaves alone -/

/-- The blocks of State, beside the queue of waiting commands and the power. -/
inductive Block where
  | geom | web | track | reports | channels | stations | slots | changeover | oven | gov | scan | link | freeIx
  deriving DecidableEq, Repr

/-- Two states agree in a block. -/
def State.agreesIn (s t : State) : Block → Prop
  | .geom => t.geom = s.geom
  | .web => t.web = s.web
  | .track => t.track = s.track
  | .reports => t.reports = s.reports
  | .channels => t.channels = s.channels
  | .stations => t.stations = s.stations
  | .slots => t.slots = s.slots
  | .changeover => t.changeover = s.changeover
  | .oven => t.oven = s.oven
  | .gov => t.gov = s.gov
  | .scan => t.scan = s.scan
  | .link => t.link = s.link
  | .freeIx => t.freeIx = s.freeIx

/-- `t` differs from `s` in the listed blocks at most. -/
def ChangesOnly (blocks : List Block) (s t : State) : Prop :=
  t.pending = s.pending ∧ t.powered = s.powered ∧ ∀ b, b ∉ blocks → s.agreesIn t b

/-- Stations other than k stand as they were. -/
def OtherStations (k : StationIx) (s t : State) : Prop := ∀ j, j ≠ k → t.station j = s.station j

/-- Channels other than k stand as they were. -/
def OtherChannels (k : StationIx) (s t : State) : Prop := ∀ j, j ≠ k → t.channel j = s.channel j

/-- The link beside its notice pending set. -/
def Link.butNotices (l : Link) : Link := { l with notices := Vector.replicate 20 Notice.clear }

/-- Latches of the listed kinds are the only change of the link. -/
def LatchesOnly (kinds : List NoticeNo) (s t : State) : Prop :=
  t.link.butNotices = s.link.butNotices ∧ ∀ n, n ∉ kinds → t.notice n = s.notice n

/-- The kind of notice `d` is pending: with `d` as its detail when it was not pending before, with its detail kept and its
count one higher, up to 255, when it was (R188). -/
def Latched (d : NoticeDetail) (s t : State) : Prop :=
  t.notice d.number =
    if (s.notice d.number).pending then
      { s.notice d.number with
        count := if (s.notice d.number).count < 255 then (s.notice d.number).count + 1 else (s.notice d.number).count }
    else { s.notice d.number with pending := true, detail := some d, count := 1 }

/-! ### Requests taken at once -/

/-- The part takes a request frame the moment it has arrived: it has power, the link is READY, no request stands before it
and no Restart is due (R182, R187). -/
def State.listening (s : State) : Bool :=
  s.powered && s.link.state == .ready && s.link.queue.isEmpty && s.link.restart != .due

/-- The reply to the request frame `f` with the given body has been formed: it is on the line, or it waits for the
transmitter; its request stands at the head of the receive queue (R182, R183, R184). -/
def Answered (f : Frame) (body : List Byte) (t : State) : Prop :=
  t.link.queue = [f] ∧
    (t.link.waiting = some (replyFrame f body) ∨ t.link.sending = some (.reply (replyFrame f body)))

/-- What taking one request leaves alone in the link: all but the receive queue, the transmitter, the requests-taken count,
the notices-sent count and the sent flags. -/
def LinkServed (s t : State) : Prop :=
  t.link.state = s.link.state ∧ t.link.startCause = s.link.startCause ∧ t.link.strap = s.link.strap
    ∧ t.link.receiver = s.link.receiver ∧ t.link.restart = s.link.restart
    ∧ t.link.serviceAccess = s.link.serviceAccess ∧ t.link.subscribed = s.link.subscribed
    ∧ t.link.lengthErrors = s.link.lengthErrors ∧ t.link.gapErrors = s.link.gapErrors
    ∧ t.link.crcErrors = s.link.crcErrors ∧ t.link.overruns = s.link.overruns
    ∧ t.link.requestsTaken = satInc s.link.requestsTaken

/-- The state in which the request frame `f` is judged: it stands in the receive queue and has been counted (R182, R194). -/
def State.taking (s : State) (f : Frame) : State :=
  s.putLink { s.link with queue := [f], requestsTaken := satInc s.link.requestsTaken }

/-- A notice kind beside its sent flag. -/
def Notice.butSent (x : Notice) : Notice := { x with sent := false }

/-- The notice pending set stands as it was, but for sent flags. -/
def NoticesKept (s t : State) : Prop := ∀ n, (t.notice n).butSent = (s.notice n).butSent

/-- A request that changes only the listed blocks, beside the link's own work, and is answered with `body`. -/
def Served (blocks : List Block) (s t : State) (f : Frame) (body : List Byte) : Prop :=
  ChangesOnly (.link :: blocks) s t ∧ LinkServed s t ∧ NoticesKept s t ∧ Answered f body t

/-- The line bytes of a frame after its start byte (R178). -/
def lineBytes (f : Frame) : List Byte :=
  let covered := beBytes 2 f.body.length ++ f.kind :: f.tag :: f.body
  covered ++ crcBytes covered

/-- Every field of the record fits the bytes that section 11.4 gives it. -/
def GeomRecord.fits (g : GeomRecord) : Bool :=
  g.installed < 256 && g.encoderScale < 65536 && g.holdOffMm < 65536 && g.allowanceMm < 65536 && g.ovenIn < 4294967296
    && g.zoneCount < 256 && allZones.all (fun n => g.zoneEnds[n] < 4294967296) && g.exitPos < 4294967296
    && g.debounceStation < 256 && g.debounceLine < 256 && g.acceleration < 65536 && g.deceleration < 65536
    && g.tripDeceleration < 65536 && g.jogSpeed < 65536
    && allStations.all (fun k =>
      let e := g.stations[k]
      e.markPos < 4294967296 && e.nipPos < 4294967296 && e.liftLeadMm < 65536 && e.trailGuardMm < 65536
        && e.countsPerRev < 4294967296 && e.lowerTimeout < 65536 && e.raiseTimeout < 65536 && e.trimTimeout < 65536)

/-! ### What a sweep does -/

/-- The sweep from `s` to `t` changed the point: its debounced state differs (R164). -/
def State.changes (s t : State) (p : PointNo) : Bool := t.debounced p != s.debounced p

/-- Every point's debounce advanced on its sample, with the debounce count in force for its group (R164, R165). -/
def Debounces (samples : BitVec 128) (s t : State) : Prop :=
  ∀ p, let x := s.point p
       let y := t.point p
       let count := s.debounceCount (groupOfPoint p)
       y.raw = samples.getLsbD p.val
       ∧ (y.raw = x.debounced → y.debounced = x.debounced ∧ y.candidate = none ∧ y.stable = 0)
       ∧ (y.raw ≠ x.debounced → count ≤ x.stable + 1 → y.debounced = y.raw ∧ y.candidate = none ∧ y.stable = 0)
       ∧ (y.raw ≠ x.debounced → x.stable + 1 < count →
           y.debounced = x.debounced ∧ y.candidate = some y.raw ∧ y.stable = x.stable + 1)

/-- A consumer's value that follows one point: it takes the point's new state when the sweep changes the point, and stays
otherwise (R166). -/
def Follows (s t : State) (p : PointNo) (before after : Bool) : Prop :=
  after = if s.changes t p then t.debounced p else before

/-- The consumers' values that follow their points at a sweep of a READY part (R91, R137, R157, R166, R185): the zone bands, service
access, and the point-driven reasons of an installed station, which hold while DRIVE_READY and GUARD_CLOSED are false and
PASTE_EMPTY is true; a fall of ESTOP_CHAIN_OK trips the governor. -/
def Delivers (s t : State) : Prop :=
  (∀ n : ZoneIx, Follows s t (zonePoint n) s.oven.bandIn[n] t.oven.bandIn[n])
    ∧ Follows s t serviceKeyPoint s.link.serviceAccess t.link.serviceAccess
    ∧ (∀ k, s.installed k = true →
        Follows s t (stationPoint k 2) (!(s.station k).reasons.drive) (!(t.station k).reasons.drive)
        ∧ Follows s t (stationPoint k 3) (!(s.station k).reasons.guard) (!(t.station k).reasons.guard)
        ∧ Follows s t (stationPoint k 5) (s.station k).reasons.paste (t.station k).reasons.paste)
    ∧ (s.changes t estopPoint = true → t.debounced estopPoint = false →
        t.gov.state = .tripped ∧ t.gov.demand = 0 ∧ t.gov.causes.estop = true)

/-- Points of armed groups that the sweep changed and that were not marked before it, in point order (R169). -/
def State.freshChanges (s t : State) : List PointNo :=
  allPoints.filter (fun p => s.armed (groupOfPoint p) && !(s.point p).unreported && s.changes t p)

/-- Marked points whose debounced state after the sweep is not the state the host was last told, in point order (R170). -/
def State.owedChanges (s t : State) : List PointNo :=
  allPoints.filter (fun p => (s.point p).unreported && t.debounced p != (s.point p).stored)

/-- The record of a point that the sweep makes at its completion (R170, R171). -/
def sweepRecord (s t : State) (late : Bool) (p : PointNo) : ChangeRecord :=
  ⟨p, t.debounced p, s.web.w, clockAfter s.scan.clock, late⟩

/-- The scanner's records of a sweep (R168 to R171): an unarmed point's stored state follows; with no point marked before the
sweep, the changes of armed points are recorded in point order while the queue has room, and the rest are marked; with room for
all, the records owed come first, marked LATE, and no point stays marked; a full queue stays as it is. -/
def Records (s t : State) : Prop :=
  let fresh := s.freshChanges t
  let owed := s.owedChanges t
  let room := 32 - s.scan.queue.length
  (∀ p, s.armed (groupOfPoint p) = false → (t.point p).stored = t.debounced p ∧ (t.point p).unreported = false)
    ∧ ((∀ p, (s.point p).unreported = false) →
        t.scan.queue = s.scan.queue ++ (fresh.take room).map (sweepRecord s t false)
        ∧ (∀ p ∈ fresh.take room, (t.point p).stored = t.debounced p ∧ (t.point p).unreported = false)
        ∧ (∀ p ∈ fresh.drop room, (t.point p).stored = (s.point p).stored ∧ (t.point p).unreported = true)
        ∧ (∀ p, (fresh.take room).head? = some p → (t.notice 11).pending = true
            ∧ ((s.notice 11).pending = false → (t.notice 11).detail = some (.changes p (t.debounced p))))
        ∧ (∀ p, (fresh.drop room).head? = some p → (t.notice 12).pending = true
            ∧ ((s.notice 12).pending = false → (t.notice 12).detail = some (.queueOverflow p))))
    ∧ (s.scan.queue.length + owed.length < 32 → s.scan.queue.length + owed.length + fresh.length ≤ 32 →
        t.scan.queue = s.scan.queue ++ owed.map (sweepRecord s t true) ++ fresh.map (sweepRecord s t false)
        ∧ ∀ p, (t.point p).unreported = false ∧ (t.point p).stored = t.debounced p)
    ∧ (32 ≤ s.scan.queue.length →
        t.scan.queue = s.scan.queue
        ∧ ∀ p, s.armed (groupOfPoint p) = true →
            (t.point p).stored = (s.point p).stored
            ∧ (t.point p).unreported = ((s.point p).unreported || s.changes t p))

/-- The zone span of a zone n of the oven while supervision operates, at a sweep that changes no other point (R137, R138, R141): a
fall of the zone's band opens it at the zone's exit, or leaves a lost mark at a full track; a rise closes the open span held
for the zone, whose EXIT crossing is not due by it, at the zone's entry, or clears the lost mark. -/
def ZoneSpanFollows (n : ZoneIx) (s t : State) : Prop :=
  (s.debounced (zonePoint n) = true → t.debounced (zonePoint n) = false → s.oven.zoneSpans[n] = .none →
      Latched (.undercureOpen (.zone n)) s t
      ∧ (s.tags.length < 128 →
          t.oven.zoneSpans[n] = .id s.newId
          ∧ ∃ x, findTag s.newId t.tags = some x ∧ x.kind = .undercure (.zone n) ∧ x.uStart = s.front - s.zoneEnd n
              ∧ x.uEnd = none ∧ t.tags.length = s.tags.length + 1)
      ∧ (128 ≤ s.tags.length → t.oven.zoneSpans[n] = .lost ∧ t.tags = s.tags))
    ∧ (s.debounced (zonePoint n) = false → t.debounced (zonePoint n) = true →
      (∀ m x, s.oven.zoneSpans[n] = .id m → findTag m s.tags = some x → x.isOpen = true →
        (s.web.wmax : Int) < max x.uStart (s.front - s.zoneEntry n) + s.geo (·.exitPos) →
        t.oven.zoneSpans[n] = .none
          ∧ findTag m t.tags = some { x with uEnd := some (max x.uStart (s.front - s.zoneEntry n)) })
      ∧ (s.oven.zoneSpans[n] = .lost → t.oven.zoneSpans[n] = .none ∧ t.tags = s.tags))

/-! ### A seam that the track is handed -/

/-- The places that SEAM and ROLL_HEAD of a taken seam lack in the track (R36). -/
def State.lacking (s : State) : Nat := s.tags.length + 2 - 128

/-- The tags that stay when the first evictable ones make up the places lacking (R35, R36). -/
def State.keptTags (s : State) : List Tag := s.tags.filter (fun x => decide (x ∉ (s.tags.filter s.evictable).take s.lacking))

/-- The binding of a SEAM inserted now (R25): the staged slot of a PENDING changeover. -/
def State.seamBinding (s : State) : Option SlotIx := if s.changeover.state = .pending then s.changeover.stagedSlot else none

/-- The roll record that a taken seam's ROLL_HEAD carries (R25): the declaration at the head of the queue, or 0 and 0; and the staged
job's id under a bound SEAM, otherwise the active job's. -/
def State.seamRoll (s : State) : RollRecord where
  rollId := (s.track.declarations.head?.map (·.rollId)).getD 0
  declared := (s.track.declarations.head?.map (·.declared)).getD 0
  jobId := match s.seamBinding with
    | some i => ((s.slot i).job.map (·.id)).getD 0
    | none => s.activeJobId

/-- The changeover at a SEAM's insertion under the id n at u (R120): a PENDING one is BOUND to it, any other stands. -/
def Binds (n : Nat) (u : Int) (s t : State) : Prop :=
  (∀ i, s.seamBinding = some i →
      t.changeover = { s.changeover with state := .bound, boundSeam := some ⟨n, u⟩ }
      ∧ (s.link.state = .ready → Latched (.changeoverBound i s.seamRoll.jobId u) s t))
    ∧ (s.seamBinding = none → t.changeover = s.changeover)

/-- A taken seam inserted at u (R19, R20, R21, R25, R36, R120): the lacking places are made by eviction; the SEAM stands in the track
under the next free id and the ROLL_HEAD under an id of its own; each LIFT gate at the entry is crossed at once; with no gate at
the entry the two are all that joins the track, and nothing else follows. -/
def SeamInserted (s t : State) : Prop :=
  let u : Int := s.web.w
  let n := freeIdFrom 128 s.track.nextId s.keptTags
  let h := freeIdFrom 128 (nextNumberAfter n) (placeTag ⟨n, .seam s.seamBinding, u, none, 0⟩ s.keptTags)
  t.track.evictions = Nat.repeat satInc s.lacking s.track.evictions
    ∧ (∀ e, 0 < s.lacking → s.tags.find? s.evictable = some e → s.link.state = .ready → (t.notice 7).pending = true
        ∧ ((s.notice 7).pending = false → (t.notice 7).detail = some (.trackFull e.kind e.uStart)))
    ∧ Binds n u s t
    ∧ (∃ x, findTag n t.tags = some x ∧ x.kind = .seam s.seamBinding ∧ x.uStart = u)
    ∧ (∃ i y, i ≠ n ∧ (∀ x ∈ s.keptTags, x.id ≠ i) ∧ findTag i t.tags = some y ∧ y.kind = .rollHead s.seamRoll ∧ y.uStart = u)
    ∧ (∀ k : StationIx, ⟨.lift k, 0⟩ ∈ s.geom.gates → (t.station k).hold = (s.station k).hold + 1)
    ∧ ((∀ gate ∈ s.geom.gates, 0 < gate.pos) →
        t.tags = placeTag ⟨h, .rollHead s.seamRoll, u, none, 0⟩ (placeTag ⟨n, .seam s.seamBinding, u, none, 0⟩ s.keptTags)
        ∧ t.track.nextId = nextNumberAfter h ∧ ChangesOnly [.web, .track, .changeover, .link] s t)

/-- A taken seam that a full track cannot insert (R37): counted, latched with the declaration it discards, and the line is tripped;
the tags, the changeover and the eviction count stand. -/
def SeamLeftOut (s t : State) : Prop :=
  t.tags = s.tags ∧ t.track.nextId = s.track.nextId ∧ t.track.evictions = s.track.evictions
    ∧ t.track.untracked = satInc s.track.untracked ∧ t.changeover = s.changeover
    ∧ (s.link.state = .ready → Latched (.seamUntracked s.web.w s.seamRoll.rollId) s t)
    ∧ t.gov.causes = s.gov.causes.insert .seamUntracked ∧ (t.gov.state = .tripping ∨ t.gov.state = .tripped)
    ∧ ChangesOnly [.web, .track, .gov, .link] s t

/-! ### Crossings -/

/-- The tag is taken out of the track when its EXIT crossing has been handled, and only reports and notices move beside it (R33). -/
def LeavesAtExit (x : Tag) (s t : State) : Prop := findTag x.id t.tags = none ∧ ChangesOnly [.track, .reports, .link] s t

/-- The report that an open report r becomes when it closes at u (R48). -/
def reportAt (r : OpenReport) (number : Nat) (u : Int) (by' : ClosedBy) : Report where
  number := number
  roll := r.roll
  uHead := r.uHead
  measured := if u < r.uHead then 0 else min 4294967295 ((u - r.uHead) / 1000).toNat
  closedBy := by'
  items := r.items
  overflow := r.overflow

/-- The open report of s, if any, is closed at u and `opened` stands in its place (R46, R47, R48, R55): it takes the next number and
joins a queue with room, or is lost to a full one; without an open report nothing is closed. -/
def ReportCloses (u : Int) (by' : ClosedBy) (opened : Option OpenReport) (s t : State) : Prop :=
  let n := s.reports.nextNumber
  (s.reports.current = none → t.reports = { s.reports with current := opened })
    ∧ ∀ r, s.reports.current = some r →
      (s.reports.queue.length < 8 →
        t.reports = { s.reports with current := opened, nextNumber := if n < 65535 then n + 1 else 1,
                                     queue := s.reports.queue ++ [reportAt r n u by'] }
        ∧ (s.link.state = .ready → Latched (.reportReady n r.roll.rollId) s t))
      ∧ (8 ≤ s.reports.queue.length →
        t.reports = { s.reports with current := opened, nextNumber := if n < 65535 then n + 1 else 1,
                                     lost := satInc s.reports.lost }
        ∧ (s.link.state = .ready → Latched (.reportLost r.roll.rollId n) s t))

/-- An item of the given kind over [a, b] reaches the open report (R49 to R54): stored with its offset from the roll's head and its length
in mm, held at the ends of their ranges, while the list has a place, and counted in the overflow afterwards; without an open
report it is unassigned. -/
def ItemReported (kind : ItemKind) (a b : Int) (s t : State) : Prop :=
  (s.reports.current = none → t.reports = { s.reports with unassigned := satInc s.reports.unassigned })
    ∧ ∀ r, s.reports.current = some r →
      (r.items.length < 24 →
        let item : Item := ⟨kind, max (-2147483648) (min 2147483647 ((a - r.uHead) / 1000)),
          if b < a then 0 else min 4294967295 ((b - a) / 1000).toNat⟩
        t.reports = { s.reports with current := some { r with items := r.items ++ [item] } })
      ∧ (24 ≤ r.items.length →
        t.reports = { s.reports with current := some { r with overflow := if r.overflow < 255 then r.overflow + 1 else r.overflow } })

/-- The item that a closed span of the given kind reports, none for a planned PRINT_GAP (R50). -/
def TagKind.spanItem : TagKind → Option ItemKind
  | .printGap _ true => none
  | .printGap k false => some (.printGap k)
  | .misregister k => some (.misregister k)
  | .undercure c => some (.undercure c)
  | .overcure => some .overcure
  | .seam _ | .rollHead _ | .marker _ => none

/-- A SEAM of any binding crosses LIFT_k (R92, R100): the hold count rises; from 0 SEAM joins the set, and a station in LOWERING or DOWN
rises, its lower output withdrawn; from above 0 nothing else of the station changes. -/
def HoldRises (k : StationIx) (s t : State) : Prop :=
  let x := s.station k
  let y := t.station k
  y.hold = x.hold + 1
    ∧ (x.hold = 0 → y.reasons = { x.reasons with seam := true }
        ∧ (x.state = .down ∨ x.state = .lowering → y.lowerOutput = false
            ∧ y.state = if s.upTrue k = true ∧ s.downTrue k = false then .up else .raising)
        ∧ (x.state = .up ∨ x.state = .raising ∨ x.state = .stuck → y.state = x.state))
    ∧ (0 < x.hold → y = { x with hold := x.hold + 1 })
    ∧ OtherStations k s t ∧ ChangesOnly [.track, .reports, .channels, .stations, .link] s t

/-- A SEAM of any binding at u crosses NIP_k (R101): a strike under a station in LOWERING, DOWN or RAISING, which is counted and latched,
trips the line and sticks the station; under any other station it passes. -/
def SeamAtNip (k : StationIx) (u : Int) (s t : State) : Prop :=
  let x := s.station k
  let y := t.station k
  (x.state = .lowering ∨ x.state = .down ∨ x.state = .raising →
      y.state = .stuck ∧ y.stuckCause = some .seamStrike ∧ y.lowerOutput = false
      ∧ y.strikeCount = satInc x.strikeCount ∧ y.stuckCount = satInc x.stuckCount
      ∧ y.reasons = { x.reasons with fault := true } ∧ y.hold = x.hold
      ∧ t.gov.causes = s.gov.causes.insert .seamStrike ∧ (t.gov.state = .tripping ∨ t.gov.state = .tripped)
      ∧ (s.link.state = .ready → Latched (.seamStrike k u) s t ∧ Latched (.stationStuck k .seamStrike) s t)
      ∧ OtherStations k s t)
    ∧ (x.state = .up ∨ x.state = .stuck → ChangesOnly [.track] s t)

/-- A SEAM of any binding crosses CLEAR_k (R100): the hold count falls, a count of 0 staying at 0, and SEAM leaves the set with the last. -/
def HoldFalls (k : StationIx) (s t : State) : Prop :=
  (t.station k).hold = (s.station k).hold - 1 ∧ ((s.station k).hold = 1 → (t.station k).reasons.seam = false)

/-! ### The switch of a station at a changeover -/

/-- Station k under the staged job of slot i after the bound seam's CLEAR_k crossing (R60, R121, R122): its mode and slot in force are
the staged job's; has-printed stays set only from PRINT to PRINT; the channel is kept when its keep is honoured and flushed
otherwise, with the out-of-tolerance flag cleared and a trim in flight kept. -/
def Switched (k : StationIx) (i : SlotIx) (old new : Job) (s t : State) : Prop :=
  let mode := new.entries[k].mode
  let kept := new.entries[k].keep = true ∧ new.reference = old.reference ∧ new.reference.val < k.val ∧ mode ≠ .off
  (t.station k).mode = mode ∧ (t.station k).slot = some i ∧ ((t.station k).reasons.jobIdle = true ↔ mode ≠ .print)
    ∧ ((t.station k).state ≠ .down →
        ((t.station k).hasPrinted = true ↔
          (s.station k).hasPrinted = true ∧ (s.station k).mode = .print ∧ mode = .print))
    ∧ (t.channel k).outOfTol = false ∧ (t.channel k).flight = (s.channel k).flight
    ∧ (kept → (t.channel k).state = (s.channel k).state ∧ (t.channel k).wExp = (s.channel k).wExp
        ∧ (t.channel k).wLast = (s.channel k).wLast ∧ (t.channel k).misses = (s.channel k).misses)
    ∧ (¬ kept → (t.channel k).state = flushedState k (some new) mode ∧ (t.channel k).wExp = none
        ∧ (t.channel k).wLast = none ∧ (t.channel k).misses = 0)

/-- The bound seam's CLEAR_k crossing at jobs and changeover, from the old slot o to the staged slot i (R121, R123): the station
switches and joins the switched set; the last installed station to switch completes the changeover. -/
def SwitchesAtClear (k : StationIx) (o i : SlotIx) (old new : Job) (s t : State) : Prop :=
  let c := { s.changeover with switched := s.changeover.switched.set k.val true k.isLt }
  Switched k i old new s t
    ∧ ((∃ j, s.installed j = true ∧ j ≠ k ∧ s.changeover.switched[j] = false) →
        t.changeover = c ∧ t.slots = s.slots ∧ ∀ j, j ≠ k → t.station j = s.station j)
    ∧ ((∀ j, s.installed j = true → j = k ∨ s.changeover.switched[j] = true) →
        t.slot o = .loaded old ∧ t.slot i = .active new ∧ (∀ j, (t.station j).slot = some i)
        ∧ (s.link.state = .ready → Latched (.changeoverDone i new.id s.web.w) s t)
        ∧ t.changeover = if 1 ≤ s.geo (·.zoneCount) then { c with state := .settling } else Changeover.cleared)

/-! ### Gates in table order -/

/-- The place of a gate among gates at one position (R10): stations by number, LIFT, NIP and CLEAR within a station, then the line gates
OVEN_IN, OVEN_OUT and EXIT. -/
def GateKind.rank : GateKind → Nat
  | .lift k => 3 * k.val
  | .nip k => 3 * k.val + 1
  | .clear k => 3 * k.val + 2
  | .ovenIn => 48
  | .ovenOut => 49
  | .exit => 50

/-- The gate a stands before the gate b: at a smaller position, or at the same one by the order of equal positions (R10). -/
def Gate.before (a b : Gate) : Prop := a.pos < b.pos ∨ (a.pos = b.pos ∧ a.kind.rank < b.kind.rank)

/-! ### Marks of a channel -/

/-- A mark detection at channel k is taken (R65). -/
def State.takesMark (s : State) (k : StationIx) : Prop :=
  s.powered = true ∧ s.installed k = true ∧ s.web.direction = .forward ∧ s.web.deficit = 0 ∧ (s.channel k).referenced = true

/-- The point u lies in a PRINT_GAP of station k in the track (R70). -/
def State.gapCovers (s : State) (k : StationIx) (u : Int) : Prop :=
  ∃ x ∈ s.tags, (x.kind = .printGap k true ∨ x.kind = .printGap k false) ∧ x.uStart ≤ u ∧ ∀ e, x.uEnd = some e → u ≤ e

/-- The detection in its window, in CONFIRM or LOCKED under the job j, is measured (R68, R69, R73 to R76, R78). -/
def MarkMeasured (k : StationIx) (j : Job) (s t : State) : Prop :=
  ∃ m, (t.channel k).lastMeas = some m
    ∧ m.wm = s.web.w ∧ m.cm = s.phaseCount k ∧ m.phiM = m.cm * j.rpt / s.counts k
    ∧ m.phiP = predictedPhase j.rpt m.phiM ((s.nip k : Int) - s.markPos k) j.entries[k].stretch
    ∧ m.error = registerError j.rpt m.phiP j.entries[k].offset
    ∧ (t.channel k).state = .locked ∧ (t.channel k).wLast = some (s.web.w : Int)
    ∧ (t.channel k).wExp = some ((s.web.w : Int) + j.rpt) ∧ (t.channel k).misses = 0
    ∧ ((t.channel k).outOfTol = true ↔ j.entries[k].tolerance < m.error.natAbs)
    ∧ (m.error.natAbs ≤ j.deadBand →
        m.trim = 0 ∧ m.outcome = .deadBand ∧ (t.channel k).flight = (s.channel k).flight
          ∧ (t.channel k).trims = (s.channel k).trims)
    ∧ (j.deadBand < m.error.natAbs → m.trim = trimValue m.error j.gain j.trimLimit
        ∧ (m.trim = 0 → m.outcome = .noStep ∧ (t.channel k).flight = (s.channel k).flight)
        ∧ (m.trim ≠ 0 → (s.channel k).flight = none →
            m.outcome = .issued
            ∧ (t.channel k).flight = some ⟨(s.channel k).nextTrim, m.trim, s.web.w⟩
            ∧ (t.channel k).trimTimer = some (s.geo (fun g => g.stations[k].trimTimeout))
            ∧ (t.channel k).nextTrim = (if (s.channel k).nextTrim < 255 then (s.channel k).nextTrim + 1 else 1)
            ∧ (t.channel k).trims = satInc (s.channel k).trims)
        ∧ (m.trim ≠ 0 → (s.channel k).flight ≠ none →
            m.outcome = .held ∧ (t.channel k).flight = (s.channel k).flight
            ∧ (t.channel k).overruns = satInc (s.channel k).overruns))
    ∧ OtherChannels k s t ∧ ChangesOnly [.track, .reports, .channels, .link] s t

/-- The channel loses its lock by misses (R71): HUNT, the loss counted and latched with W, a trim in flight kept. -/
def LosesLock (k : StationIx) (s t : State) : Prop :=
  let c := s.channel k
  let d := t.channel k
  d.state = .hunt ∧ d.wExp = none ∧ d.wLast = none ∧ d.misses = 0 ∧ d.outOfTol = false ∧ d.lockLosses = satInc c.lockLosses
    ∧ d.flight = c.flight ∧ d.trimTimer = c.trimTimer ∧ d.strays = c.strays ∧ d.lastMeas = c.lastMeas
    ∧ (s.link.state = .ready → Latched (.lockLost k s.web.w) s t)
    ∧ OtherChannels k s t ∧ ChangesOnly [.track, .reports, .channels, .link] s t

/-- The expiry of the expectation e in LOCKED under the job j (R70, R71): excused by a PRINT_GAP of the reference over the missing mark's
fabric; otherwise a miss, and the miss that reaches the limit loses the lock. -/
def MarkMissed (k : StationIx) (j : Job) (e : Int) (s t : State) : Prop :=
  let c := s.channel k
  let covered := s.gapCovers j.reference (e - s.markPos k)
  (covered → t = s.putChannel k { c with wExp := some (e + j.rpt) })
    ∧ (¬ covered → c.misses + 1 < j.missLimit → t = s.putChannel k { c with wExp := some (e + j.rpt), misses := c.misses + 1 })
    ∧ (¬ covered → j.missLimit ≤ c.misses + 1 → LosesLock k s t)

/-! ### Invariants -/

/-- R6, R10: a working geometry has passed its checks and the gate table is its own; without one the table is empty. -/
def GeometryInv (s : State) : Prop :=
  match s.geom.working with
  | some g => g.rangesHold = true ∧ g.blamed = [] ∧ s.geom.gates = g.gateTable
  | none => s.geom.gates = []

/-- R11, R13, R14: W does not exceed Wmax, nor Wmax the counter limit; a deficit stands only at W = 0; the reverse-limit flag
stands only in an excursion. -/
def WebInv (s : State) : Prop :=
  s.web.w ≤ s.web.wmax ∧ s.web.wmax ≤ Config.wLimit ∧ (0 < s.web.deficit → s.web.w = 0)
    ∧ (s.web.reverseLimit = true → 0 < s.web.excursion)

/-- R19, R20, R23: at most 128 tags in order of u_start, each with an id of its own from 1 to 65,535; at most 2
declarations. -/
def TrackInv (s : State) : Prop :=
  s.tags.length ≤ 128 ∧ (s.tags.map (·.uStart)).Pairwise (· ≤ ·) ∧ (s.tags.map (·.id)).Nodup
    ∧ (∀ t ∈ s.tags, 1 ≤ t.id ∧ t.id ≤ 65535) ∧ (1 ≤ s.track.nextId ∧ s.track.nextId ≤ 65535)
    ∧ s.track.declarations.length ≤ 2

/-- R53, R55, R171, R181: the queues and the item lists keep within their places. -/
def QueueInv (s : State) : Prop :=
  s.reports.queue.length ≤ 8 ∧ (∀ r ∈ s.reports.queue, r.items.length ≤ 24)
    ∧ (∀ r, s.reports.current = some r → r.items.length ≤ 24)
    ∧ s.scan.queue.length ≤ 32 ∧ s.link.queue.length ≤ 4

/-- R147, R150: the demand is 0 in HALT and TRIPPED, the cause set is empty but in TRIPPING and TRIPPED, the jog fields are
present in JOG alone, and the speeds keep within 20,000. -/
def GovernorInv (s : State) : Prop :=
  let g := s.gov
  ((g.state = .halt ∨ g.state = .tripped) → g.demand = 0)
    ∧ (g.causes ≠ TripSet.empty ↔ (g.state = .tripping ∨ g.state = .tripped))
    ∧ (g.jogDirection.isSome = true ↔ g.state = .jog)
    ∧ (g.state ≠ .jog → g.jogTimer = none ∧ g.reversalPending = false)
    ∧ g.target ≤ 20000 ∧ g.limit ≤ 20000 ∧ g.demand ≤ 20000

/-- R91, R92, R93, R94: one station.  It is LOWERING or DOWN only with an empty set, and UP only with a reason; JOB_IDLE
stands exactly out of PRINT mode, FAULT exactly in STUCK, SEAM exactly under a hold; each timer and the lower output go with
their states. -/
def Station.inv (st : Station) : Prop :=
  ((st.state = .lowering ∨ st.state = .down) → st.reasons.isEmpty = true)
    ∧ (st.state = .up → st.reasons.isEmpty = false)
    ∧ (st.reasons.jobIdle = true ↔ st.mode ≠ .print)
    ∧ (st.reasons.fault = true ↔ st.state = .stuck)
    ∧ (st.reasons.seam = true ↔ 0 < st.hold)
    ∧ (st.lowerTimer.isSome = true ↔ st.state = .lowering)
    ∧ (st.raiseTimer.isSome = true ↔ st.state = .raising)
    ∧ (st.lowerOutput = true ↔ (st.state = .lowering ∨ st.state = .down))

def StationInv (s : State) : Prop := ∀ k, (s.station k).inv

/-- R59, R67, R68, R75, R76: one channel.  An expectation stands exactly in CONFIRM and LOCKED, W_last exactly in LOCKED;
misses and the flag only in LOCKED; the trim timer runs exactly with a trim in flight; trim numbers are 1 to 255. -/
def Channel.inv (c : Channel) : Prop :=
  (c.wExp.isSome = true ↔ (c.state = .confirm ∨ c.state = .locked))
    ∧ (c.wLast.isSome = true ↔ c.state = .locked)
    ∧ (c.state ≠ .locked → c.misses = 0 ∧ c.outOfTol = false)
    ∧ (c.trimTimer.isSome = true ↔ c.flight.isSome = true)
    ∧ (1 ≤ c.nextTrim ∧ c.nextTrim ≤ 255)

def ChannelInv (s : State) : Prop := ∀ k, (s.channel k).inv

/-- R168, R169: a point's stored state differs from its debounced state only while it is marked unreported, and only a point
of an armed group is marked. -/
def ScannerInv (s : State) : Prop :=
  ∀ p, ((s.point p).unreported = false → (s.point p).stored = (s.point p).debounced)
    ∧ (s.armed (groupOfPoint p) = false → (s.point p).unreported = false)

/-- R188, R189: an occurrence count stands exactly with the pending flag; a kind that is not pending has no detail and a clear
sent flag. -/
def Notice.inv (x : Notice) : Prop :=
  (x.pending = true ↔ 0 < x.count) ∧ x.count ≤ 255 ∧ (x.pending = false → x.detail = none ∧ x.sent = false)

def NoticeInv (s : State) : Prop := ∀ n, (s.notice n).inv

/-- The replies in the making: one that waits, one on the line, and one that a Save Geometry's write holds back. -/
def State.repliesInMaking (s : State) : Nat :=
  s.link.waiting.isSome.toNat + (match s.link.sending with | some (.reply _) => 1 | _ => 0) + s.geom.writing.isSome.toNat

/-- R182, R187: exactly one reply is in the making while a request stands at the head of the receive queue, and none
otherwise or while a Restart is due. -/
def ReplyInv (s : State) : Prop :=
  s.repliesInMaking = if s.link.queue = [] ∨ s.link.restart = .due then 0 else 1

def Slot.isStaged : Slot → Bool
  | .staged _ => true
  | _ => false

/-- R113, section 6.5: at most one slot is ACTIVE and at most one STAGED; a changeover in PENDING or BOUND names the ACTIVE slot
as its old slot and the STAGED slot as its staged slot; otherwise no slot is STAGED; in NONE the record is clear. -/
def SlotInv (s : State) : Prop :=
  (∀ i j, (s.slot i).isActive = true → (s.slot j).isActive = true → i = j)
    ∧ (∀ i j, (s.slot i).isStaged = true → (s.slot j).isStaged = true → i = j)
    ∧ (match s.changeover.state with
       | .none => (∀ i, (s.slot i).isStaged = false) ∧ s.changeover = Changeover.cleared
       | .settling => ∀ i, (s.slot i).isStaged = false
       | .pending | .bound =>
         ∃ o i, s.changeover.oldSlot = some o ∧ s.changeover.stagedSlot = some i
           ∧ (s.slot o).isActive = true ∧ (s.slot i).isStaged = true)

/-! ### A phase slip -/

/-- A phase slip of channel k found at the count r, which leaves the count at `left` and the phase referenced flag at `flag` (R63, R64).
In HUNT, CONFIRM and LOCKED the channel goes to HUNT, and with the station DOWN in PRINT mode and no span held its misregister
span opens at the nip, or is lost to a full track (R82); in REFERENCE the state is kept.  In all of these the slip is counted and latched
with r, and no lock loss is counted; in UNUSED it is neither.  A trim in flight is kept. -/
def PhaseSlips (k : StationIx) (r left : Int) (flag : Bool) (s t : State) : Prop :=
  let c := s.channel k
  let d := t.channel k
  (c.state = .unused → t = s.putChannel k { c with revolution := left, referenced := flag })
    ∧ (c.state = .reference →
        d = { c with revolution := left, referenced := flag, phaseSlips := satInc c.phaseSlips }
        ∧ LatchesOnly [2] s t ∧ OtherChannels k s t ∧ ChangesOnly [.channels, .link] s t)
    ∧ (c.state = .hunt ∨ c.state = .confirm ∨ c.state = .locked →
        d = { c with
          state := .hunt, revolution := left, referenced := flag, wExp := none, wLast := none, misses := 0, outOfTol := false
          phaseSlips := satInc c.phaseSlips, span := d.span }
        ∧ ((s.station k).mode = .print → (s.station k).state = .down → c.span = .none →
            (TrackInv s → s.tags.length < 128 → d.span = .id s.newId
              ∧ ∃ x, findTag s.newId t.tags = some x ∧ x.kind = .misregister k ∧ x.uStart = s.front - s.nip k ∧ x.uEnd = none)
            ∧ (128 ≤ s.tags.length → d.span = .lost ∧ t.tags = s.tags))
        ∧ OtherChannels k s t ∧ ChangesOnly [.track, .reports, .channels, .link] s t)
    ∧ (c.state ≠ .unused → s.link.state = .ready → Latched (.phaseSlip k r) s t)

/-! ### A dropped insertion -/

/-- The insertion of a tag of the given kind at u is dropped by a full track (R38): counted, and latched with what was dropped. -/
def InsertionDropped (kind : TagKind) (u : Int) (s t : State) : Prop :=
  t.tags = s.tags ∧ t.track = { s.track with drops := satInc s.track.drops } ∧ (t.notice 7).pending = true
    ∧ ((s.notice 7).pending = false → (t.notice 7).detail = some (.trackFull kind u) ∧ (t.notice 7).count = 1)
    ∧ ChangesOnly [.track, .link] s t

/-! ### The taking up of the points -/

/-- Station k, in UP under JOB_IDLE, takes up its end points (R112): both true stick it with BOTH_ENDS; otherwise UP false makes it rise
with the raise timer started; otherwise it stays UP. -/
def TakesUpEnds (k : StationIx) (s t : State) : Prop :=
  let x := s.station k
  let y := t.station k
  x.state = .up → x.reasons.jobIdle = true →
    (s.upTrue k = true → s.downTrue k = true →
        y.state = .stuck ∧ y.stuckCause = some .bothEnds ∧ y.lowerOutput = false ∧ y.reasons.fault = true
        ∧ y.stuckCount = satInc x.stuckCount ∧ (t.notice 4).pending = true)
      ∧ (s.upTrue k = false →
        y.state = .raising ∧ y.lowerOutput = false ∧ y.raiseTimer = some (s.geo (fun g => g.stations[k].raiseTimeout))
        ∧ y.reasons.fault = x.reasons.fault ∧ y.stuckCount = x.stuckCount)
      ∧ (s.upTrue k = true → s.downTrue k = false →
        y.state = .up ∧ y.lowerOutput = x.lowerOutput ∧ y.reasons.fault = x.reasons.fault ∧ y.stuckCount = x.stuckCount)

/-! ### A track reset -/

/-- The span of the given kind that its owner keeps under `r` stands open at u in the track. -/
def OpenAt (r : SpanRef) (kind : TagKind) (u : Int) (t : State) : Prop :=
  ∃ n x, r = .id n ∧ findTag n t.tags = some x ∧ x.kind = kind ∧ x.uStart = u ∧ x.uEnd = none

/-- The state of station k once SEAM has left its set (R93, R95, R102): a station in UP with no other reason lowers, and is DOWN at once
where its end points say so. -/
def State.stateWithoutSeam (s : State) (k : StationIx) : StationState :=
  match (s.station k).state, (s.station k).reasons.unplanned with
  | .up, false => if s.downTrue k && !s.upTrue k then .down else .lowering
  | x, _ => x

/-- Station k and its channel after a track reset (R43, R84, R102, R105, R107): SEAM leaves the set; the print gap of an installed station
in PRINT mode that has printed and is not DOWN, and the misregister span of a channel whose condition holds, are opened
anew at the nip, at u = -n_k, the gap planned when no reason other than SEAM was present; no other reference stands. -/
def StationReopens (k : StationIx) (s t : State) : Prop :=
  let x := s.station k
  let c := s.channel k
  let y := t.station k
  let planned := !x.reasons.unplanned
  let gap := s.installed k = true ∧ x.mode = .print ∧ x.hasPrinted = true ∧ s.stateWithoutSeam k ≠ .down
  let misregister := x.mode = .print ∧ s.stateWithoutSeam k = .down
    ∧ (c.state = .hunt ∨ c.state = .confirm ∨ (c.state = .locked ∧ c.outOfTol = true))
  y.state = s.stateWithoutSeam k ∧ y.reasons = { x.reasons with seam := false }
    ∧ (gap → y.gapPlanned = planned ∧ OpenAt y.gap (.printGap k planned) (-(s.nip k : Int)) t)
    ∧ (¬ gap → y.gap = .none)
    ∧ (misregister → OpenAt (t.channel k).span (.misregister k) (-(s.nip k : Int)) t)
    ∧ (¬ misregister → (t.channel k).span = .none)

/-- Supervision after a track reset (R43, R145): while it operates, each zone out of band has its span opened anew at u = -z_n; an OPEN
watch opens the speed span anew at -O_out while the excess lasts and is CLEAR otherwise; in TIMING W_0 is carried into the new
coordinates and the persistence timer runs on. -/
def OvenReopens (s t : State) : Prop :=
  (s.oven.operating = true →
      (∀ n : ZoneIx,
        (n ∈ s.zones → s.oven.bandIn[n] = false →
            OpenAt t.oven.zoneSpans[n] (.undercure (.zone n)) (-(s.zoneEnd n : Int)) t ∧ (t.notice 15).pending = true)
        ∧ (n ∉ s.zones ∨ s.oven.bandIn[n] = true → t.oven.zoneSpans[n] = .none))
      ∧ (∀ th, s.oven.watch = .opened → s.oven.threshold = some th →
        (th < s.web.measuredSpeed → t.oven.watch = .opened ∧ (t.notice 15).pending = true
            ∧ OpenAt t.oven.speedSpan (.undercure .speed) (-(s.geo (·.ovenOut) : Int)) t)
        ∧ (s.web.measuredSpeed ≤ th → t.oven.watch = .clear ∧ t.oven.speedSpan = .none)))
    ∧ (s.oven.operating = false → ∀ n : ZoneIx, t.oven.zoneSpans[n] = .none)
    ∧ (s.oven.watch ≠ .opened → t.oven.watch = s.oven.watch ∧ t.oven.excessStart = s.oven.excessStart.map (· - s.front)
        ∧ t.oven.persistence = s.oven.persistence ∧ t.oven.speedSpan = .none)

/-! ### One change alone in a sweep -/

/-- The sweep from `s` to `t` changed the point p and no other. -/
def State.changesAlone (s t : State) (p : PointNo) : Prop := s.changes t p = true ∧ ∀ q, q ≠ p → s.changes t q = false

/-- A station whose running timers count one millisecond (log entry 3). -/
def Station.ticked (x : Station) : Station := { x with lowerTimer := tickDown x.lowerTimer, raiseTimer := tickDown x.raiseTimer }

/-- The governor's record whose jog timer, when running, counts one millisecond (log entry 3). -/
def Governor.ticked (g : Governor) : Governor := { g with jogTimer := tickDown g.jogTimer }

/-- An entry of station k to STUCK with cause c (R94). -/
def Sticks (k : StationIx) (c : StuckCause) (s t : State) : Prop :=
  let x := s.station k
  let y := t.station k
  y.state = .stuck ∧ y.stuckCause = some c ∧ y.lowerOutput = false ∧ y.lowerTimer = none ∧ y.raiseTimer = none
    ∧ y.reasons = { x.reasons with fault := true } ∧ y.stuckCount = satInc x.stuckCount ∧ y.strikeCount = x.strikeCount
    ∧ y.mode = x.mode ∧ y.hold = x.hold ∧ y.hasPrinted = x.hasPrinted ∧ Latched (.stationStuck k c) s t

/-- Station k completes its lowering stroke (R95, R104): DOWN, the lower timer stopped, the has-printed flag set and the print gap
closed at the nip, when its EXIT crossing is not due by it. -/
def Lands (k : StationIx) (s t : State) : Prop :=
  let x := s.station k
  t.station k = { x.ticked with state := .down, lowerTimer := none, hasPrinted := true, gap := .none }
    ∧ ∀ m z, GeometryInv s → TrackInv s → x.gap = .id m → findTag m s.tags = some z → z.isOpen = true →
        (s.web.wmax : Int) < max z.uStart (s.front - s.nip k) + s.geo (·.exitPos) →
        findTag m t.tags = some { z with uEnd := some (max z.uStart (s.front - s.nip k)) }

/-- Station k completes its raising stroke (R95, R93): UP, the raise timer stopped; with an empty set LOWERING at once. -/
def Rises (k : StationIx) (s t : State) : Prop :=
  let x := s.station k
  (x.reasons.isEmpty = false → t.station k = { x.ticked with state := .up, raiseTimer := none })
    ∧ (x.reasons.isEmpty = true → t.station k =
        { x with state := .lowering, raiseTimer := none, lowerOutput := true,
                 lowerTimer := some (s.geo (fun g => g.stations[k].lowerTimeout)) })

/-- Station k leaves DOWN for STUCK (R98, R103, R105): its print gap, under a job it has printed, opens unplanned at the nip, or is
lost to a full track. -/
def LosesDown (k : StationIx) (s t : State) : Prop :=
  let x := s.station k
  Sticks k .downLost s t
    ∧ (x.mode = .print → x.hasPrinted = true → x.gap = .none →
        (t.station k).gapPlanned = false
        ∧ (TrackInv s → s.tags.length < 128 → (s.channel k).span ≠ .id s.newId → (t.station k).gap = .id s.newId
            ∧ ∃ z, findTag s.newId t.tags = some z ∧ z.kind = .printGap k false ∧ z.uStart = s.front - s.nip k ∧ z.uEnd = none)
        ∧ (128 ≤ s.tags.length → (t.station k).gap = .lost))

/-- Station k under a change of one of its end points DOWN and UP alone (R94, R95, R98): both ends true stick it; DOWN and not UP
completes a lowering, UP a raising; DOWN lost sticks it, and UP lost makes it rise again; a screen between its ends changes
nothing, nor does any change in STUCK.  No trip is requested, and the other stations stand. -/
def EndPointsFollow (k : StationIx) (s t : State) : Prop :=
  let x := s.station k
  let y := t.station k
  let down := t.debounced (stationPoint k 0)
  let up := t.debounced (stationPoint k 1)
  (s.changesAlone t (stationPoint k 0) ∨ s.changesAlone t (stationPoint k 1) →
      t.gov = s.gov.ticked ∧ (∀ j, j ≠ k → t.station j = (s.station j).ticked)
      ∧ (x.state = .stuck → y = x.ticked)
      ∧ (down = true → up = true → x.state ≠ .stuck → Sticks k .bothEnds s t)
      ∧ (x.state = .lowering → down = true → up = false → Lands k s t)
      ∧ (x.state = .lowering → down = false → y = x.ticked))
    ∧ (s.changesAlone t (stationPoint k 0) →
      (x.state = .down → down = false → LosesDown k s t)
      ∧ (x.state = .up ∨ x.state = .raising ∨ (x.state = .down ∧ down = true) → up = false → y = x.ticked))
    ∧ (s.changesAlone t (stationPoint k 1) →
      (x.state = .raising → up = true → down = false → Rises k s t)
      ∧ (x.state = .up → up = false →
          y.state = .raising ∧ y.lowerOutput = false ∧ y.lowerTimer = none
          ∧ y.raiseTimer = some (s.geo (fun g => g.stations[k].raiseTimeout))
          ∧ y.reasons = x.reasons ∧ y.mode = x.mode ∧ y.hold = x.hold ∧ y.stuckCount = x.stuckCount)
      ∧ (x.state = .up → up = true → down = false → y = x.ticked)
      ∧ (x.state = .raising → up = false → y = x.ticked)
      ∧ (x.state = .down → ¬ (down = true ∧ up = true) → y = x.ticked))

/-- Station k under a change of DRIVE_READY, GUARD_CLOSED or PASTE_EMPTY alone (R92, R93, R95): a set no longer empty lifts a station in
LOWERING or DOWN, an empty one lowers a station in UP, with the stroke tested on entry; otherwise the state stands. -/
def ReasonPointsFollow (k : StationIx) (s t : State) : Prop :=
  let x := s.station k
  let y := t.station k
  let down := s.downTrue k
  let up := s.upTrue k
  s.changesAlone t (stationPoint k 2) ∨ s.changesAlone t (stationPoint k 3) ∨ s.changesAlone t (stationPoint k 5) →
    (∀ j, j ≠ k → t.station j = (s.station j).ticked)
    ∧ (x.state = .lowering ∨ x.state = .down → y.reasons.isEmpty = false →
        y.lowerOutput = false ∧ y.lowerTimer = none
        ∧ (up = true → down = false → y.state = .up ∧ y.raiseTimer = none)
        ∧ (up = false ∨ down = true → y.state = .raising ∧ y.raiseTimer = some (s.geo (fun g => g.stations[k].raiseTimeout))))
    ∧ (x.state = .up → y.reasons.isEmpty = true →
        y.lowerOutput = true
        ∧ (down = true → up = false → y.state = .down ∧ y.lowerTimer = none ∧ y.hasPrinted = true)
        ∧ (down = false ∨ up = true → y.state = .lowering ∧ y.lowerTimer = some (s.geo (fun g => g.stations[k].lowerTimeout))))
    ∧ ((x.state = .raising ∨ x.state = .stuck ∨ (x.state = .up ∧ y.reasons.isEmpty = false)
          ∨ ((x.state = .lowering ∨ x.state = .down) ∧ y.reasons.isEmpty = true)) →
        y.state = x.state ∧ y.lowerOutput = x.lowerOutput ∧ y.lowerTimer = tickDown x.lowerTimer
          ∧ y.raiseTimer = tickDown x.raiseTimer)

/-- A trip request with a cause c other than ESTOP at a moving or a tripping line (R158, R159): the cause joins the set, the demand
stands, and a new cause latches TRIP. -/
def Trips (c : TripCause) (s t : State) : Prop :=
  t.gov.causes = s.gov.causes.insert c ∧ t.gov.demand = s.gov.demand ∧ t.gov.target = s.gov.target
    ∧ t.gov.state = (if s.gov.state ≠ .tripping ∧ s.gov.demand = 0 then .tripped else .tripping)
    ∧ t.gov.tripCount = (if s.gov.state = .tripping then s.gov.tripCount else satInc s.gov.tripCount)
    ∧ (s.gov.causes.has c = false → Latched (.trip (s.gov.causes.insert c)) s t)

/-- The governor under a change of one point alone (R108, R157): a fall of GUARD_CLOSED at an installed station trips it in RUN and JOG, a
fall of MAIN_DRIVE_READY in every state but HALT and TRIPPED; DRIVE_READY, PASTE_LOW and PASTE_EMPTY move it not. -/
def GovernorFollows (s t : State) : Prop :=
  (∀ k, s.installed k = true → s.changesAlone t (stationPoint k 3) →
      (t.debounced (stationPoint k 3) = false → s.gov.state = .run ∨ s.gov.state = .jog → Trips .guard s t)
      ∧ (t.debounced (stationPoint k 3) = true ∨ (s.gov.state ≠ .run ∧ s.gov.state ≠ .jog) → t.gov = s.gov.ticked))
    ∧ (s.changesAlone t mainDrivePoint →
      (∀ j, t.station j = (s.station j).ticked)
      ∧ (t.debounced mainDrivePoint = false → s.gov.state ≠ .halt → s.gov.state ≠ .tripped → Trips .mainDrive s t)
      ∧ (t.debounced mainDrivePoint = true ∨ s.gov.state = .halt ∨ s.gov.state = .tripped → t.gov = s.gov.ticked))
    ∧ ∀ k, s.changesAlone t (stationPoint k 2) ∨ s.changesAlone t (stationPoint k 4) ∨ s.changesAlone t (stationPoint k 5) →
        t.gov = s.gov.ticked

/-- A change of one point of station k alone (R89, R91 to R95, R98, R108): its end points, its reasons, and PASTE_LOW, whose rise latches
its notice; the points of a station that is not installed move no station and not the governor. -/
def StationPointsFollow (k : StationIx) (s t : State) : Prop :=
  (s.installed k = true → EndPointsFollow k s t ∧ ReasonPointsFollow k s t
      ∧ (s.changesAlone t (stationPoint k 4) →
          (∀ j, t.station j = (s.station j).ticked)
          ∧ (t.debounced (stationPoint k 4) = true → Latched (.pasteLow k) s t)
          ∧ (t.debounced (stationPoint k 4) = false → t.notice 17 = s.notice 17)))
    ∧ (s.installed k = false → (∃ n, s.changesAlone t (stationPoint k n)) →
        t.gov = s.gov.ticked ∧ ∀ j, t.station j = (s.station j).ticked)

end Sys2Proof.Machine
end

