-- ==== Sys2Proof/WellFormed.lean ====
section
/-! DEFINITION. The checks on commands as syntax: a request command names the row whose frame it carries, and its body
fits a frame of the link (R178: at most 480 bytes).  An ill-formed command still has a meaning; it spells the frame of
another row, or a frame no line can carry. -/
namespace Sys2Proof

/-- The body fits a frame (R178). -/
def bodyFits (body : List Byte) : Bool := body.length ≤ Config.largestBody

/-- The command names the row its frame belongs to, with a body that fits. -/
def Instr.wellFormed (i : Instr) : Bool :=
  match i with
  | .unknownKind kind _ body => (requestOf kind).isNone && bodyFits body
  | .getGeometry _ body => body != [0x01] && bodyFits body
  | .declareRollQueue _ body => body.head? != some 0x01 && bodyFits body
  | .declareRollHere _ fields => bodyFits (0x01 :: fields)
  | .identify _ body | .getStatus _ body | .setGeometry _ body | .saveGeometry _ body | .loadJob _ body
  | .readJob _ body | .startJob _ body | .endJob _ body | .stageJob _ body | .cancelStage _ body
  | .setSpeedTarget _ body | .run _ body | .halt _ body | .jog _ body | .clearTrip _ body | .liftStation _ body
  | .lowerStation _ body | .clearStationFault _ body | .getStation _ body | .insertMarker _ body | .readTrack _ body
  | .trackReset _ body | .fetchRollReport _ body | .armGroup _ body | .disarmGroup _ body | .readPoint _ body
  | .census _ body | .fetchChanges _ body | .subscribe _ body | .acknowledgeNotices _ body | .restart _ body => bodyFits body
  | .getGateTable _ | .powerOn _ | .resetInput _ | .settingsStoreRead | .endOfStarting | .sweep _ | .encoderCount _
  | .seamDetection | .markDetection _ | .screenEncoderCount _ _ | .indexPulse _ | .trimDone _ _ | .trimTimeout _
  | .lowerTimeout _ | .raiseTimeout _ | .speedRecompute | .haltDwellExpiry | .persistenceExpiry | .governorUpdate
  | .jogTimerExpiry | .lengthError | .gapTimeout | .frameReceived | .noticeFrameSend | .saveGeometryComplete
  | .restartTakesEffect _ | .byteReceived _ | .frameSent | .powerFail => true

end Sys2Proof
end

