-- ==== Sys2Proof/Certificates/Slice0/Obligations.lean ====
section
/-! DEFINITION. The statements about the part, for the provers.  A request statement reads: a part that listens takes the
request at once, answers it with the given body, and changes only the named blocks beside the link's own work. -/

open Sys2Proof Sys2Proof.Machine

/-! ### The step and the starts -/

/-- O1. A step runs the command at the front of the queue on the queue's rest; on an empty queue the part idles (the model's
choice, log entry 17). -/
def Obligations.StepTakesFrontCommand : Prop :=
  (∀ (c : Instr) (s : State), step (s.putPending (c :: s.pending)) = exec c s)
    ∧ ∀ s : State, s.pending = [] → step s = .next s

/-- O2. Every command answers a next state and leaves the queue of waiting commands as it is (the model's choice, log entry 17);
on a part without power every command but POWER_ON changes nothing (the model's reading, log entry 13). -/
def Obligations.EveryCommandCompletes : Prop :=
  ∀ (c : Instr) (s : State), ∃ t, exec c s = .next t ∧ t.pending = s.pending
    ∧ (s.powered = false → (∀ strap, c ≠ .powerOn strap) → t = s)

/-- O3. The values after power-on that the tables of R17, R45, R58, R87, R112, R131, R146, R162, R177 and R194 give. -/
def Obligations.ResetValues : Prop :=
  let s := State.reset
  (s.web.w = 0 ∧ s.web.wmax = 0 ∧ s.web.deficit = 0 ∧ s.web.direction = .forward ∧ s.web.reverseLimit = false
    ∧ s.web.webLimit = false ∧ s.web.lastSeam = none ∧ s.web.slices = Vector.replicate 10 0 ∧ s.web.measuredSpeed = 0
    ∧ s.web.seamsTaken = 0 ∧ s.web.seamsIgnored = 0)
  ∧ (s.tags = [] ∧ s.track.declarations = [] ∧ s.track.nextId = 1 ∧ s.track.evictions = 0 ∧ s.track.drops = 0
    ∧ s.track.untracked = 0)
  ∧ (s.reports.current = none ∧ s.reports.queue = [] ∧ s.reports.unassigned = 0 ∧ s.reports.lost = 0
    ∧ s.reports.nextNumber = 1)
  ∧ (∀ k, (s.channel k).state = .unused ∧ (s.channel k).revolution = 0 ∧ (s.channel k).referenced = false
    ∧ (s.channel k).wExp = none ∧ (s.channel k).wLast = none ∧ (s.channel k).misses = 0
    ∧ (s.channel k).outOfTol = false ∧ (s.channel k).lastMeas = none ∧ (s.channel k).flight = none
    ∧ (s.channel k).trimTimer = none ∧ (s.channel k).nextTrim = 1 ∧ (s.channel k).span = .none ∧ (s.channel k).strays = 0
    ∧ (s.channel k).overruns = 0 ∧ (s.channel k).phaseSlips = 0 ∧ (s.channel k).lockLosses = 0 ∧ (s.channel k).trims = 0
    ∧ (s.channel k).trimTimeouts = 0)
  ∧ (∀ k, (s.station k).state = .up ∧ (s.station k).lowerOutput = false ∧ (s.station k).mode = .off
    ∧ (s.station k).slot = none ∧ (s.station k).reasons = LiftSet.onlyJobIdle ∧ (s.station k).hold = 0
    ∧ (s.station k).hasPrinted = false ∧ (s.station k).gap = .none ∧ (s.station k).lowerTimer = none
    ∧ (s.station k).raiseTimer = none ∧ (s.station k).stuckCause = none ∧ (s.station k).stuckCount = 0
    ∧ (s.station k).strikeCount = 0)
  ∧ ((∀ i, s.slot i = .empty) ∧ s.changeover.state = .none)
  ∧ (s.oven.operating = false ∧ (∀ n : ZoneIx, s.oven.zoneSpans[n] = .none) ∧ s.oven.speedSpan = .none
    ∧ s.oven.dwell = none ∧ s.oven.cureLimit = none ∧ s.oven.threshold = none ∧ s.oven.watch = .clear
    ∧ s.oven.excessStart = none ∧ s.oven.persistence = none ∧ s.oven.haltTimer = none ∧ s.oven.haltMark = none)
  ∧ (s.gov.state = .halt ∧ s.gov.target = 0 ∧ s.gov.limit = 0 ∧ s.gov.term = .stop ∧ s.gov.demand = 0
    ∧ s.gov.direction = .forward ∧ s.gov.causes = TripSet.empty ∧ s.gov.jogTimer = none ∧ s.gov.jogDirection = none
    ∧ s.gov.reversalPending = false ∧ s.gov.tripCount = 0)
  ∧ ((∀ p, (s.point p).candidate = none ∧ (s.point p).stable = 0 ∧ (s.point p).unreported = false)
    ∧ (∀ g, s.armed g = false) ∧ s.scan.queue = [] ∧ s.scan.clock = 0)
  ∧ (s.link.state = .starting ∧ s.link.startCause = .powerOn ∧ s.link.receiver = none ∧ s.link.queue = []
    ∧ s.link.serviceAccess = false ∧ s.link.subscribed = Vector.replicate 20 false
    ∧ (∀ n, s.notice n = Notice.clear) ∧ s.link.lengthErrors = 0 ∧ s.link.gapErrors = 0 ∧ s.link.crcErrors = 0
    ∧ s.link.overruns = 0 ∧ s.link.requestsTaken = 0 ∧ s.link.noticesSent = 0)

/-- O4. POWER_ON, RESET_INPUT and a due Restart bring every block to its starting values with their start cause (R8, R187); the
stored copy stays, torn when a Save Geometry was writing (R7); POWER_FAIL leaves that copy alone (log entries 7, 13, 17).  Where
the manual gives no value the starting values are the model's choices of log entry 6 (points false, bands OUT, gap planned false, the
terms of the last limit absent, W of the last sweep 0, geometry NONE before the store has been read).
RESTART_TAKES_EFFECT without a Restart that is due leaves the state as it is (the model's reading, log entry 14). -/
def Obligations.StartsAndPowerLoss : Prop :=
  ∀ (strap : Fin 4) (s : State),
    let kept := if s.geom.writing.isSome then StoreCopy.torn else s.geom.stored
    exec (.powerOn strap) s = .next (State.start .powerOn strap kept s.pending s.freeIx)
    ∧ (s.powered = true →
        exec (.resetInput strap) s = .next (State.start .resetInput strap kept s.pending s.freeIx)
        ∧ (s.link.restart = .due →
            exec (.restartTakesEffect strap) s = .next (State.start .restart strap kept s.pending s.freeIx))
        ∧ (s.link.restart ≠ .due → exec (.restartTakesEffect strap) s = .next s)
        ∧ ∃ t, exec .powerFail s = .next t ∧ t.powered = false ∧ t.geom.stored = kept ∧ t.geom.working = none)

/-- O5. The settings store's read in STARTING: a good store gives its record as the working geometry with its gate table; a bad
one gives geometry state NONE; web measure starts at 0, and the declarations and the open report are discarded (R8, R17). -/
def Obligations.SettingsStoreReadTaken : Prop :=
  ∀ s : State, s.powered = true → s.link.state = .starting → s.geom.storeRead = false →
    ∃ t, exec .settingsStoreRead s = .next t ∧ t.geom.storeRead = true ∧ t.geom.stored = s.geom.stored
      ∧ (∀ g, s.geom.stored.good = some g →
          t.geom.working = some g ∧ t.geom.storeMatch = true ∧ t.geom.gates = g.gateTable)
      ∧ (s.geom.stored.good = none → t.geom.working = none ∧ t.geom.storeMatch = false ∧ t.geom.gates = [])
      ∧ t.web.w = 0 ∧ t.web.wmax = 0 ∧ t.web.deficit = 0 ∧ t.web.lastSeam = none ∧ t.track.declarations = []
      ∧ t.reports.current = none
      ∧ ChangesOnly [.geom, .web, .track, .reports, .channels, .stations, .changeover, .oven, .link, .freeIx] s t

/-- O6. The end of STARTING: the link is READY, RESTARTED is latched, and the consumers read their points as they stand: service
access, the zone bands, the governor's ESTOP, and of every installed station the point-driven lift reasons and the end points (R112,
R137, R157, R167, R185, R186; `TakesUpEnds`). -/
def Obligations.StartingEnds : Prop :=
  ∀ s : State, s.powered = true → s.startingOver = true →
    ∃ t, exec .endOfStarting s = .next t ∧ t.link.state = .ready
      ∧ Latched (.restarted s.link.startCause s.geometryValid) s t
      ∧ t.link.serviceAccess = s.debounced serviceKeyPoint
      ∧ (∀ n : ZoneIx, t.oven.bandIn[n] = s.debounced (zonePoint n))
      ∧ (s.debounced estopPoint = true → t.gov = s.gov)
      ∧ (s.debounced estopPoint = false → t.gov.state = .tripped ∧ t.gov.demand = 0 ∧ t.gov.causes.estop = true)
      ∧ (∀ k, s.installed k = true →
          (t.station k).reasons.drive = !s.driveReady k ∧ (t.station k).reasons.guard = !s.guardClosed k
            ∧ (t.station k).reasons.paste = s.pasteEmpty k ∧ TakesUpEnds k s t)
      ∧ ChangesOnly [.track, .reports, .channels, .stations, .oven, .gov, .link, .freeIx] s t

/-! ### The scanner's sweep -/

/-- O7. The first sweep of a start takes every sample as raw sample, debounced and stored state, makes no record and latches
nothing; a later sweep in STARTING debounces, the stored states following, and hands nothing on (R167).  A sweep of a READY part
advances every point's debounce on its sample with the count in force (R164, R165), hands its changes to the consumers that
follow the points (R166), and makes its records (R168 to R171; that a marked point changed in the sweep which catches it up is
recorded once is the model's reading, log entry 9).  Where one point alone changes, it opens and closes the zone span of a zone's
point (R137, R138), and an installed station's end points, reasons, guard and paste, and MAIN_DRIVE_READY, act by R91 to R95, R98,
R108 and R157 (`StationPointsFollow`, `GovernorFollows`).  That a sweep is the millisecond tick of the timers, and that the tick comes
before the delivery, so that a timer which a delivered change starts is not ticked by that sweep, is the model's choice (log
entry 3).  That each sweep advances the clock by one, the first included, is the model's reading (log entry 21). -/
def Obligations.SweepsDebounceEveryPoint : Prop :=
  ∀ (samples : BitVec 128) (s : State), s.powered = true →
    (s.link.state = .starting → s.scan.swept = false →
      ∃ t, exec (.sweep samples) s = .next t ∧ t.scan.swept = true ∧ t.scan.queue = s.scan.queue
        ∧ (∀ p, t.point p =
            ⟨samples.getLsbD p.val, samples.getLsbD p.val, none, 0, samples.getLsbD p.val, false⟩)
        ∧ (∀ n, t.notice n = s.notice n)
        ∧ t.scan.clock = clockAfter s.scan.clock
        ∧ ChangesOnly [.channels, .stations, .oven, .gov, .scan, .link] s t)
    ∧ (s.link.state = .starting → s.scan.swept = true →
      ∃ t, exec (.sweep samples) s = .next t ∧ Debounces samples s t ∧ (∀ p, (t.point p).stored = t.debounced p)
        ∧ t.scan.queue = s.scan.queue ∧ (∀ n, t.notice n = s.notice n) ∧ t.scan.clock = clockAfter s.scan.clock
        ∧ (∀ k, (t.station k).reasons = (s.station k).reasons) ∧ t.oven.bandIn = s.oven.bandIn
        ∧ t.link.serviceAccess = s.link.serviceAccess ∧ t.gov.state = s.gov.state
        ∧ ChangesOnly [.channels, .stations, .oven, .gov, .scan, .link] s t)
    ∧ (s.link.state = .ready → s.scan.swept = true →
      ∃ t, exec (.sweep samples) s = .next t ∧ t.scan.clock = clockAfter s.scan.clock ∧ t.scan.sweepW = s.web.w
        ∧ t.web = s.web ∧ t.geom = s.geom ∧ t.slots = s.slots ∧ t.changeover = s.changeover
        ∧ Debounces samples s t ∧ Delivers s t ∧ (ScannerInv s → Records s t)
        ∧ (∀ k, StationPointsFollow k s t) ∧ GovernorFollows s t
        ∧ ∀ n : ZoneIx, n ∈ s.zones → s.oven.operating = true → GeometryInv s → TrackInv s →
            (∀ p, p ≠ zonePoint n → t.debounced p = s.debounced p) → ZoneSpanFollows n s t)

/-! ### Web measure -/

/-- O8. An encoder count on W, Wmax, the deficit, the direction and the running slice, as the table of the web counter
and the counter limit give (R11, R14); it is
discarded while the geometry state is NONE (R6).  In a state whose W is at most Wmax, a reverse count that brings the
excursion above the allowance sets the reverse-limit flag and trips the governor with REVERSE_LIMIT, once in an excursion; an
excursion at the allowance or below does not; a forward count that ends the excursion clears the flag, and one within it leaves
it set (R13).  The count that raises the web-limit flag trips the governor with WEB_LIMIT; with the flag set none is requested again
(R14).  With a geometry in order (`GeometryInv`, which every step keeps), after a new high-water mark no crossing is due in the track (R29,
R30, R32), and without one neither the stations nor the changeover act (R12).  The halt spent mark is cleared by an advance of W that brings
W - D to the mark plus 1,000 or beyond, and stands otherwise (R144).  A SETTLING changeover without a followed seam ends at a new
high-water mark of at least O_out - O_in, its record cleared and the active job's dwell taken, and stands otherwise (R128, R136). -/
def Obligations.EncoderCountMovesTheWeb : Prop :=
  ∀ (dir : Direction) (s : State), s.powered = true →
    (s.geom.working = none → exec (.encoderCount dir) s = .next s)
    ∧ ∀ g, s.geom.working = some g → ∃ t, exec (.encoderCount dir) s = .next t
      ∧ (let k := g.encoderScale
         let a := s.web
         let b := t.web
         b.direction = dir
         ∧ b.slices = a.slices.set 0 (a.slices[0] + (match dir with | .forward => (k : Int) | .reverse => -(k : Int)))
         ∧ (dir = .forward → 0 < a.deficit →
             b.deficit = a.deficit - k ∧ b.w = a.w + (k - a.deficit) ∧ b.wmax = max a.wmax b.w ∧ b.webLimit = a.webLimit)
         ∧ (dir = .forward → a.deficit = 0 → a.w + k ≤ 281474976710655 →
             b.deficit = 0 ∧ b.w = a.w + k ∧ b.wmax = max a.wmax b.w ∧ b.webLimit = a.webLimit)
         ∧ (dir = .forward → a.deficit = 0 → 281474976710655 < a.w + k →
             b.deficit = 0 ∧ b.w = 281474976710655 ∧ b.wmax = 281474976710655 ∧ b.webLimit = true)
         ∧ (dir = .reverse → k ≤ a.w → b.w = a.w - k ∧ b.deficit = a.deficit ∧ b.wmax = a.wmax ∧ b.webLimit = a.webLimit)
         ∧ (dir = .reverse → a.w < k → b.w = 0 ∧ b.deficit = a.deficit + (k - a.w) ∧ b.wmax = a.wmax ∧ b.webLimit = a.webLimit)
         ∧ b.lastSeam = a.lastSeam ∧ b.measuredSpeed = a.measuredSpeed ∧ b.seamsTaken = a.seamsTaken
         ∧ b.seamsIgnored = a.seamsIgnored)
      ∧ (WebInv s → dir = .reverse →
         (s.web.reverseLimit = false → g.allowanceMm * 1000 < s.web.excursion + g.encoderScale →
           t.web.reverseLimit = true ∧ t.gov.causes = s.gov.causes.insert .reverseLimit
             ∧ (t.gov.state = .tripping ∨ t.gov.state = .tripped))
         ∧ (s.web.reverseLimit = false → s.web.excursion + g.encoderScale ≤ g.allowanceMm * 1000 →
             t.web.reverseLimit = false ∧ t.gov = s.gov)
         ∧ (s.web.reverseLimit = true → t.web.reverseLimit = true ∧ t.gov = s.gov))
      ∧ (WebInv s → dir = .forward →
         (s.web.reverseLimit = false → t.web.reverseLimit = false)
         ∧ (s.web.reverseLimit = true → s.web.excursion ≤ g.encoderScale → t.web.reverseLimit = false)
         ∧ (s.web.reverseLimit = true → g.encoderScale < s.web.excursion → t.web.reverseLimit = true))
      ∧ (let raised := dir = .forward ∧ s.web.deficit = 0 ∧ 281474976710655 < s.web.w + g.encoderScale ∧ s.web.webLimit = false
         (raised → t.gov.causes.webLimit = true ∧ (t.gov.state = .tripping ∨ t.gov.state = .tripped))
         ∧ (¬ raised → t.gov.causes.webLimit = s.gov.causes.webLimit))
      ∧ (WebInv s → GeometryInv s →
         let mark := dir = .forward ∧ s.web.excursion < g.encoderScale ∧ s.web.wmax < 281474976710655
         let advance := dir = .forward ∧ s.web.deficit < g.encoderScale ∧ s.web.w < 281474976710655
         let front := min (s.front + g.encoderScale) 281474976710655
         (mark → TrackInv s → ∀ x ∈ t.tags, t.isDue x = false)
         ∧ (¬ mark → t.stations = s.stations ∧ t.changeover = s.changeover)
         ∧ (advance → t.front = front)
         ∧ (∀ m, s.oven.haltMark = some m →
           (advance → m + 1000 ≤ front → t.oven.haltMark = none)
           ∧ (¬ advance ∨ front < m + 1000 → t.oven.haltMark = some m))
         ∧ (s.oven.haltMark = none → t.oven.haltMark = none)
         ∧ (s.changeover.state = .settling → s.changeover.boundSeam = none →
           (mark → (g.ovenOut : Int) - g.ovenIn ≤ front →
             t.changeover = Changeover.cleared
             ∧ (s.oven.operating = true → t.oven.dwell = s.activeJob.map (·.dwell)))
           ∧ (¬ mark ∨ front < (g.ovenOut : Int) - g.ovenIn → t.changeover = s.changeover)))
      ∧ ChangesOnly [.web, .track, .reports, .channels, .stations, .slots, .changeover, .oven, .gov, .link, .freeIx] s t

/-- O9. A recompute gives the measured speed floor(|S| × 6 / 100), at most 65,535, from the ten slices' sum, and opens a new slice
(R15; that the sum is taken before the shift is the model's reading, log entry 5).  An excess seen with the watch CLEAR starts
its timing at W - D, one seen in TIMING or OPEN changes nothing, and its end in TIMING discards it (R139); its end in OPEN closes
the speed span at the oven entry, when its EXIT crossing is not due by it (R140).  The halt timer starts at a standstill, counts
10 ms at each recompute, stops otherwise, and at H times 100 ms expires with one closed OVERCURE (R142, R143; the expiry inside
the recompute is the model's reading, log entry 18).  Without supervision the oven stands as it was. -/
def Obligations.SpeedRecomputeMeasures : Prop :=
  ∀ s : State, s.powered = true → ∃ t, exec .speedRecompute s = .next t
    ∧ (let sum := s.web.slices.toList.sum
       let v := min 65535 (sum.natAbs * 6 / 100)
       t.web = { s.web with measuredSpeed := v, slices := t.web.slices }
       ∧ t.web.slices[0] = 0 ∧ (∀ i : Fin 9, t.web.slices[i.val + 1] = s.web.slices[i.val])
       ∧ (s.oven.operating = false → t.oven = s.oven)
       ∧ (∀ th, s.oven.operating = true → s.oven.watch = .clear → s.oven.threshold = some th → th < v →
           t.oven.watch = .timing ∧ t.oven.excessStart = some s.front ∧ t.oven.persistence = some 1000)
       ∧ (∀ th, s.oven.operating = true → s.oven.watch = .timing → s.oven.threshold = some th → v ≤ th →
           t.oven.watch = .clear ∧ t.oven.excessStart = none ∧ t.oven.persistence = none)
       ∧ (∀ th, s.oven.operating = true → s.oven.watch = .opened → s.oven.threshold = some th → v ≤ th →
           t.oven.watch = .clear ∧ t.oven.speedSpan = .none ∧ t.oven.excessStart = none ∧ t.oven.persistence = none
           ∧ ∀ n x, GeometryInv s → TrackInv s → s.oven.speedSpan = .id n → findTag n s.tags = some x → x.isOpen = true →
               (s.web.wmax : Int) < max x.uStart (s.front - s.geo (·.ovenIn)) + s.geo (·.exitPos) →
               findTag n t.tags = some { x with uEnd := some (max x.uStart (s.front - s.geo (·.ovenIn))) })
       ∧ (∀ th, s.oven.operating = true → s.oven.threshold = some th →
           (s.oven.watch = .clear → v ≤ th → t.oven.watch = .clear ∧ t.oven.speedSpan = s.oven.speedSpan)
           ∧ (s.oven.watch = .timing ∨ s.oven.watch = .opened → th < v →
               t.oven.watch = s.oven.watch ∧ t.oven.excessStart = s.oven.excessStart
               ∧ t.oven.persistence = s.oven.persistence ∧ t.oven.speedSpan = s.oven.speedSpan))
       ∧ (s.oven.operating = true →
           let h := s.haltDwellInForce.getD 0
           (v ≠ 0 ∨ h = 0 ∨ s.oven.haltMark ≠ none → t.oven.haltTimer = none ∧ t.oven.haltMark = s.oven.haltMark)
           ∧ (v = 0 → 0 < h → s.oven.haltMark = none →
               (s.oven.haltTimer = none → t.oven.haltTimer = some 0 ∧ t.oven.haltMark = none)
               ∧ ∀ e, s.oven.haltTimer = some e →
                   (e + 10 < h * 100 → t.oven.haltTimer = some (e + 10) ∧ t.oven.haltMark = none)
                   ∧ (h * 100 ≤ e + 10 → t.oven.haltTimer = none ∧ t.oven.haltMark = some s.front
                       ∧ (s.link.state = .ready → (t.notice 16).pending = true)
                       ∧ ∀ g, GeometryInv s → TrackInv s → s.geom.working = some g → s.oven.watch ≠ .opened →
                           (128 ≤ s.tags.length → t.tags = s.tags ∧ t.track.drops = satInc s.track.drops)
                           ∧ (s.tags.length < 128 → (s.web.wmax : Int) < s.front - g.ovenIn + g.exitPos →
                               t.tags.length = s.tags.length + 1
                               ∧ ∃ x, findTag s.newId t.tags = some x ∧ x.kind = .overcure
                                   ∧ x.uStart = s.front - g.ovenOut ∧ x.uEnd = some (s.front - g.ovenIn))))))
    ∧ ChangesOnly [.web, .track, .reports, .oven, .link] s t

/-- O10. A seam detection is taken when the geometry is VALID, the direction forward, W at Wmax with no deficit and the hold-off
passed: L becomes W, the seam is counted and the head declaration leaves the queue (R16).  With enough evictable tags for the places
lacking, SEAM and ROLL_HEAD are inserted at W and a PENDING changeover is bound (R25, R36, R120; `SeamInserted`); with fewer, the
seam is left out and the line is tripped (R37; `SeamLeftOut`).  That the ROLL_HEAD stands in the track also where the SEAM's
crossings at the entry open spans in a full track is the model's choice (log entry 10).  Otherwise the detection is ignored and
counted, and nothing else changes (R16). -/
def Obligations.SeamDetectionJudged : Prop :=
  ∀ s : State, s.powered = true →
    (∀ g, s.geom.working = some g → s.web.direction = .forward → s.web.w = s.web.wmax → s.web.deficit = 0 →
      (∀ l, s.web.lastSeam = some l → g.holdOffMm * 1000 ≤ s.web.w - l) →
      ∃ t, exec .seamDetection s = .next t
        ∧ t.web = { s.web with lastSeam := some s.web.w, seamsTaken := satInc s.web.seamsTaken }
        ∧ t.track.declarations = s.track.declarations.drop 1
        ∧ (GeometryInv s → TrackInv s → s.lacking ≤ (s.tags.filter s.evictable).length → SeamInserted s t)
        ∧ (TrackInv s → (s.tags.filter s.evictable).length < s.lacking → SeamLeftOut s t)
        ∧ ChangesOnly [.web, .track, .reports, .channels, .stations, .slots, .changeover, .oven, .gov, .link] s t)
    ∧ ((s.geom.working = none ∨ s.web.direction = .reverse ∨ s.web.w ≠ s.web.wmax ∨ s.web.deficit ≠ 0
        ∨ ∃ g l, s.geom.working = some g ∧ s.web.lastSeam = some l ∧ s.web.w - l < g.holdOffMm * 1000) →
      exec .seamDetection s = .next (s.putWeb { s.web with seamsIgnored := satInc s.web.seamsIgnored }))

/-- O11. The crossings of a SEAM, whatever its binding: LIFT_k raises the hold count and lifts a station in LOWERING or DOWN; NIP_k
under a station in LOWERING, DOWN or RAISING is a strike, which sticks the station and trips the line; CLEAR_k lowers the count
(R100, R101); EXIT closes the open report, which takes the next number and joins a queue with room (R47, R48, R55).  A bound SEAM's
CLEAR_k crossing switches a station that has not switched, and completes the changeover with the last installed station (R121,
R122, R123; `SwitchesAtClear`); at a station that has switched, or under another seam, jobs and changeover stand.  That stations
above the installed count follow the new slot at the completion is the model's reading (log entry 12).  The seam that a SETTLING
changeover follows brings the cure blend to BOTH at OVEN_IN and ends the changeover at OVEN_OUT (R124).  At EXIT a ROLL_HEAD
closes the open report and opens its own (R46), a MARKER and a closed span join the open report as items, overflow or unassigned
(R49, R50, R51, R53, R54), a planned PRINT_GAP leaves silently (R50), and the tag is removed (R33). -/
def Obligations.SeamCrossingsTaken : Prop :=
  ∀ (s : State) (x : Tag) (k : StationIx) (p : Nat),
    let t := takeCrossing x s
    (∀ b, x.kind = .seam b →
      (s.nextGateOf x = some ⟨.lift k, p⟩ → HoldRises k s t)
      ∧ (s.nextGateOf x = some ⟨.nip k, p⟩ → SeamAtNip k x.uStart s t)
      ∧ (s.nextGateOf x = some ⟨.clear k, p⟩ → HoldFalls k s t)
      ∧ (s.nextGateOf x = some ⟨.exit, p⟩ → LeavesAtExit x s t ∧ ReportCloses x.uStart .seam none s t))
    ∧ (∀ i, x.kind = .seam (some i) → s.nextGateOf x = some ⟨.clear k, p⟩ →
      (s.changeover.state ≠ .bound ∨ s.changeover.switched[k] = true ∨ (∀ b, s.changeover.boundSeam = some b → b.id ≠ x.id) →
          t.changeover = s.changeover ∧ t.slots = s.slots ∧ (t.station k).mode = (s.station k).mode
          ∧ (t.channel k).state = (s.channel k).state)
      ∧ (∀ b o n jOld jNew, s.changeover.state = .bound → s.changeover.boundSeam = some b → b.id = x.id →
          s.changeover.switched[k] = false → s.changeover.oldSlot = some o → s.changeover.stagedSlot = some n →
          s.slot o = .active jOld → s.slot n = .staged jNew →
          SwitchesAtClear k o n jOld jNew s t))
    ∧ (∀ i b, x.kind = .seam (some i) → s.changeover.state = .settling → s.changeover.boundSeam = some b → b.id = x.id →
      (s.nextGateOf x = some ⟨.ovenIn, p⟩ → t.changeover = { s.changeover with blend := .both })
      ∧ (s.nextGateOf x = some ⟨.ovenOut, p⟩ → t.changeover = Changeover.cleared))
    ∧ (s.nextGateOf x = some ⟨.exit, p⟩ →
      (∀ roll, x.kind = .rollHead roll → LeavesAtExit x s t ∧ ReportCloses x.uStart .nextHead (some ⟨roll, x.uStart, [], 0⟩) s t)
      ∧ (∀ label, x.kind = .marker label → LeavesAtExit x s t ∧ ItemReported (.marker label) x.uStart x.uStart s t)
      ∧ (∀ e, x.kind.isSpan = true → x.uEnd = some e → LeavesAtExit x s t
          ∧ (x.kind.spanItem = none → t.reports = s.reports ∧ t.link = s.link)
          ∧ ∀ item, x.kind.spanItem = some item → ItemReported item x.uStart e s t))

/-! ### Register channels -/

/-- O12. Screen encoder counts and index pulses on the phase of an installed station (R61, R62): a referenced count beyond C_k + 2 or below
-(C_k + 2) has missed its index, which clears the flag and is a phase slip at that count (R64), and a pulse outside the accepted ranges is
a phase slip at the count found (R63; `PhaseSlips`). -/
def Obligations.ScreenPhaseFollowed : Prop :=
  ∀ (s : State) (k : StationIx), s.powered = true → s.installed k = true →
    (∀ dir : Direction,
      let c := s.channel k
      let r := c.revolution + (match dir with | .forward => 1 | .reverse => -1)
      (c.referenced = false ∨ r.natAbs ≤ s.counts k + 2 →
        exec (.screenEncoderCount k dir) s = .next (s.putChannel k { c with revolution := r }))
      ∧ (c.referenced = true → s.counts k + 2 < r.natAbs →
        ∃ t, exec (.screenEncoderCount k dir) s = .next t ∧ PhaseSlips k r r false s t))
    ∧ (let c := s.channel k
       let near := (c.revolution - s.counts k).natAbs ≤ 2 ∨ c.revolution.natAbs ≤ 2 ∨ (c.revolution + s.counts k).natAbs ≤ 2
       (c.referenced = false ∨ near →
         exec (.indexPulse k) s = .next (s.putChannel k { c with revolution := 0, referenced := true }))
       ∧ (c.referenced = true → ¬ near →
         ∃ t, exec (.indexPulse k) s = .next t ∧ PhaseSlips k c.revolution 0 true s t))

/-- O13. R67: in HUNT a taken detection becomes the candidate, with no measurement; a channel in HUNT has no expectation, and the
advance of W does nothing to it. -/
def Obligations.MarkInHuntIsTheCandidate : Prop :=
  ∀ (s : State) (k : StationIx), ChannelInv s → (s.channel k).state = .hunt →
    (s.channel k).wExp = none ∧ present false (.channel k) s = s ∧ present true (.channel k) s = s
    ∧ ∀ j, s.powered = true → s.installed k = true → s.web.direction = .forward → s.web.deficit = 0 →
        (s.channel k).referenced = true → s.jobFor k = some j →
        exec (.markDetection k) s =
          .next (s.putChannel k { s.channel k with state := .confirm, wExp := some ((s.web.w : Int) + j.rpt) })

/-- O14. A taken detection in CONFIRM or LOCKED.  In its window (R68, R69, R75, R76, R78; `MarkMeasured`) the channel is LOCKED on it, the
measurement is recorded with its error and trim, the out-of-tolerance flag judged, and a trim issued exactly when none was in
flight.  Before the window it is a stray: in CONFIRM it is the new candidate, in LOCKED nothing else changes (R68, R69); after it,
with the expiry not yet taken, a CONFIRM channel takes the expiry first and the detection as its candidate (R65, R67, R68).  At an
advance of W an expectation that W has not passed stands (R66); an expired one brings CONFIRM to HUNT, and in LOCKED it is excused,
counted as a miss, or loses the lock (R68, R70, R71; `MarkMissed`).  That a
measurement in the dead band, or with a trim of 0, keeps DEAD_BAND or NO_STEP while a trim is in flight is the model's reading
(log entry 27); that a channel kept over a changeover with its misses at or above the new limit loses its lock at its next counted
miss is the model's choice (log entry 30). -/
def Obligations.MarkInWindowMeasures : Prop :=
  ∀ (s : State) (k : StationIx) (j : Job) (e : Int),
    ((s.channel k).state = .confirm ∨ (s.channel k).state = .locked) → s.jobFor k = some j → (s.channel k).wExp = some e →
    let c := s.channel k
    let w : Int := s.web.w
    (s.takesMark k →
      ((w - e).natAbs ≤ j.window → ∃ t, exec (.markDetection k) s = .next t ∧ MarkMeasured k j s t)
      ∧ (w + j.window < e →
          (c.state = .confirm → exec (.markDetection k) s =
            .next (s.putChannel k { c with wExp := some (w + j.rpt), strays := satInc c.strays }))
          ∧ (c.state = .locked → exec (.markDetection k) s = .next (s.putChannel k { c with strays := satInc c.strays })))
      ∧ (e + j.window < w → c.state = .confirm →
          exec (.markDetection k) s = .next (s.putChannel k { c with state := .confirm, wExp := some (w + j.rpt) })))
    ∧ ∀ raised : Bool,
        (w ≤ e + j.window → present raised (.channel k) s = s)
        ∧ (e + j.window < w →
          (c.state = .confirm → present raised (.channel k) s = s.putChannel k { c with state := .hunt, wExp := none })
          ∧ (c.state = .locked → MarkMissed k j e s (present raised (.channel k) s)))

/-- O15. The register error lies in (-R/2, R/2] and differs from φ_p - o by a multiple of R (R74); the trim never exceeds T_max and
opposes the error (R75). -/
def Obligations.ErrorAndTrimBounds : Prop :=
  (∀ (rpt phiP : Nat) (o : Int), 0 < rpt → rpt % 2 = 0 → phiP < rpt →
    -(rpt : Int) < 2 * registerError rpt phiP o ∧ 2 * registerError rpt phiP o ≤ rpt
      ∧ ∃ n : Int, registerError rpt phiP o = (phiP : Int) - o + n * rpt)
  ∧ ∀ (e : Int) (gain limit : Nat),
      (trimValue e gain limit).natAbs = min ((e.natAbs * gain + 8) / 16) limit
      ∧ (0 < e → trimValue e gain limit ≤ 0) ∧ (e < 0 → 0 ≤ trimValue e gain limit)

/-- O16. R77: a trim done whose number matches ends the flight and stops the timer; any other is stale and ignored; done and expiry
in either order end the flight once.  (It speaks of installed stations: that the done of a station made uninstalled is disregarded is the
model's choice, log entry 32.) -/
def Obligations.TrimDoneEndsTheFlight : Prop :=
  ∀ (s : State) (k : StationIx) (n : Byte), s.powered = true → s.installed k = true →
    (∀ f, (s.channel k).flight = some f → f.number = n.toNat →
      exec (.trimDone k n) s = .next (s.putChannel k { s.channel k with flight := none, trimTimer := none })
      ∧ exec (.trimTimeout k) (s.putChannel k { s.channel k with flight := none, trimTimer := none })
          = .next (s.putChannel k { s.channel k with flight := none, trimTimer := none }))
    ∧ (∀ f, (s.channel k).flight = some f → f.number ≠ n.toNat → exec (.trimDone k n) s = .next s)
    ∧ ((s.channel k).flight = none → exec (.trimDone k n) s = .next s)
    ∧ (∀ t, exec (.trimTimeout k) s = .next t → exec (.trimDone k n) t = .next t)

/-- O17. The trim timer's expiry with a trim in flight (R79): the flight ends, is counted and latched, and a channel that hunts or
follows marks goes to HUNT without counting a slip or a lock loss. -/
def Obligations.TrimTimeoutEndsTheFlight : Prop :=
  ∀ (s : State) (k : StationIx) (f : TrimFlight), s.powered = true → s.link.state = .ready →
    (s.channel k).flight = some f →
    ∃ t, exec (.trimTimeout k) s = .next t ∧ (t.channel k).flight = none ∧ (t.channel k).trimTimer = none
      ∧ (t.channel k).trimTimeouts = satInc (s.channel k).trimTimeouts
      ∧ Latched (.trimTimeout k f.number f.trim) s t
      ∧ ((s.channel k).state = .hunt ∨ (s.channel k).state = .confirm ∨ (s.channel k).state = .locked →
          (t.channel k).state = .hunt ∧ (t.channel k).wExp = none ∧ (t.channel k).wLast = none
            ∧ (t.channel k).misses = 0 ∧ (t.channel k).outOfTol = false)
      ∧ ((s.channel k).state = .reference ∨ (s.channel k).state = .unused → (t.channel k).state = (s.channel k).state)
      ∧ (t.channel k).phaseSlips = (s.channel k).phaseSlips ∧ (t.channel k).lockLosses = (s.channel k).lockLosses
      ∧ OtherChannels k s t ∧ ChangesOnly [.track, .reports, .channels, .link] s t

/-! ### Stations -/

/-- O18. R96: the lower timer's expiry in LOWERING sticks the station with cause LOWER_TIMEOUT, the lower output withdrawn and FAULT in
its set; no trip is requested. -/
def Obligations.LowerTimeoutSticks : Prop :=
  ∀ (s : State) (k : StationIx), s.powered = true → (s.station k).state = .lowering →
    (s.station k).lowerTimer.isSome = true →
    ∃ t, exec (.lowerTimeout k) s = .next t ∧ (t.station k).state = .stuck
      ∧ (t.station k).stuckCause = some .lowerTimeout ∧ (t.station k).lowerOutput = false
      ∧ (t.station k).lowerTimer = none ∧ (t.station k).raiseTimer = none
      ∧ (t.station k).reasons = { (s.station k).reasons with fault := true }
      ∧ (t.station k).stuckCount = satInc (s.station k).stuckCount
      ∧ (t.station k).mode = (s.station k).mode ∧ (t.station k).hold = (s.station k).hold
      ∧ (s.link.state = .ready → Latched (.stationStuck k .lowerTimeout) s t)
      ∧ t.gov = s.gov ∧ OtherStations k s t
      ∧ ChangesOnly [.track, .reports, .channels, .stations, .link] s t

/-- O19. The raise timer's expiry in RAISING sticks the station with cause RAISE_TIMEOUT and trips the line with RAISE_FAIL (R97, R158,
R159): a moving line enters TRIPPING with its demand kept, a line at rest enters TRIPPED. -/
def Obligations.RaiseTimeoutSticksAndTrips : Prop :=
  ∀ (s : State) (k : StationIx), s.powered = true → (s.station k).state = .raising →
    (s.station k).raiseTimer.isSome = true →
    ∃ t, exec (.raiseTimeout k) s = .next t ∧ (t.station k).state = .stuck
      ∧ (t.station k).stuckCause = some .raiseTimeout ∧ (t.station k).lowerOutput = false
      ∧ (t.station k).raiseTimer = none ∧ (t.station k).reasons = { (s.station k).reasons with fault := true }
      ∧ (t.station k).stuckCount = satInc (s.station k).stuckCount
      ∧ t.gov.causes = s.gov.causes.insert .raiseFail ∧ t.gov.demand = s.gov.demand
      ∧ ((s.gov.state = .run ∨ s.gov.state = .halting ∨ s.gov.state = .jog) → 0 < s.gov.demand → t.gov.state = .tripping)
      ∧ ((s.gov.state = .run ∨ s.gov.state = .halting ∨ s.gov.state = .jog) → s.gov.demand = 0 → t.gov.state = .tripped)
      ∧ (s.gov.state = .halt → t.gov.state = .tripped)
      ∧ ((s.gov.state = .tripping ∨ s.gov.state = .tripped) → t.gov.state = s.gov.state)
      ∧ OtherStations k s t ∧ ChangesOnly [.track, .reports, .channels, .stations, .gov, .link] s t

/-! ### Oven -/

/-- O20. The persistence timer's expiry opens the speed span at W_0 - O_out, or leaves a lost mark when the track is full (R140, R141);
the halt dwell's expiry inserts one closed OVERCURE for the fabric then in the oven, with room in the track and its EXIT
crossing not due, and sets the spent mark (R143; that the command acts whenever the halt
timer runs is the model's reading, log entry 18). -/
def Obligations.OvenTimersExpire : Prop :=
  ∀ s : State, TrackInv s → s.powered = true → s.oven.operating = true →
    (∀ w0, s.oven.watch = .timing → s.oven.excessStart = some w0 →
      ∃ t, exec .persistenceExpiry s = .next t ∧ t.oven.watch = .opened ∧ t.oven.excessStart = none
        ∧ t.oven.persistence = none ∧ (s.link.state = .ready → Latched (.undercureOpen .speed) s t)
        ∧ (s.tags.length < 128 →
            ∃ x, findTag s.newId t.tags = some x ∧ x.kind = .undercure .speed ∧ x.uEnd = none
              ∧ x.uStart = w0 - s.geo (·.ovenOut) ∧ t.oven.speedSpan = .id s.newId)
        ∧ (128 ≤ s.tags.length → t.tags = s.tags ∧ t.oven.speedSpan = .lost ∧ t.track.drops = satInc s.track.drops)
        ∧ ChangesOnly [.track, .reports, .oven, .link] s t)
    ∧ (s.oven.haltTimer.isSome = true →
      ∃ t, exec .haltDwellExpiry s = .next t ∧ t.oven.haltTimer = none ∧ t.oven.haltMark = some s.front
        ∧ t.oven.watch = s.oven.watch ∧ t.oven.cureLimit = s.oven.cureLimit
        ∧ (s.link.state = .ready → (t.notice 16).pending = true)
        ∧ (∀ g, GeometryInv s → s.geom.working = some g → s.tags.length < 128 →
            (s.web.wmax : Int) < s.front - g.ovenIn + g.exitPos →
            ∃ x, findTag s.newId t.tags = some x ∧ x.kind = .overcure ∧ x.uStart = s.front - g.ovenOut
              ∧ x.uEnd = some (s.front - g.ovenIn) ∧ t.tags.length = s.tags.length + 1)
        ∧ ChangesOnly [.track, .reports, .oven, .link] s t)

/-- O21. R135: whenever supervision operates and takes a dwell in force, it computes the cure limit floor((O_out - O_in) × 6 /
(100 × D)), held at 20,000, and the threshold floor(v × 102 / 100); no timer, span or watch is touched by it. -/
def Obligations.CureLimitComputed : Prop :=
  ∀ (s : State) (g : GeomRecord) (d : Nat), s.oven.operating = true → s.geom.working = some g → s.dwellInForce = some d →
    let v := min 20000 ((g.ovenOut - g.ovenIn) * 6 / (100 * d))
    takeDwell s = s.putOven { s.oven with dwell := some d, cureLimit := some v, threshold := some (v * 102 / 100) }

/-! ### Governor -/

/-- O22. R150: in RUN, HALTING and JOG an update moves the demand toward its limit by at most one step; an update that raises the demand
leaves it at or below that update's limit; in HALT and TRIPPED the demand is 0; a step is 1 to 20 units. -/
def Obligations.UpdateMovesTheDemand : Prop :=
  ∀ s : State, s.powered = true → GovernorInv s →
    ∃ t, exec .governorUpdate s = .next t
      ∧ (let rising := max 1 (s.geo (·.acceleration) * 10 / 1000)
         let falling := max 1 (s.geo (·.deceleration) * 10 / 1000)
         (s.gov.state = .run ∨ s.gov.state = .halting ∨ s.gov.state = .jog →
           (s.gov.demand < t.gov.limit → t.gov.demand = s.gov.demand + min rising (t.gov.limit - s.gov.demand))
           ∧ (t.gov.limit < s.gov.demand → t.gov.demand = s.gov.demand - min falling (s.gov.demand - t.gov.limit))
           ∧ (s.gov.demand = t.gov.limit → t.gov.demand = s.gov.demand))
         ∧ (s.gov.demand < t.gov.demand → t.gov.demand ≤ t.gov.limit)
         ∧ (t.gov.state = .halt ∨ t.gov.state = .tripped → t.gov.demand = 0)
         ∧ (∀ g, s.geom.working = some g → g.rangesHold = true → 1 ≤ rising ∧ rising ≤ 20 ∧ 1 ≤ falling ∧ falling ≤ 20))
      ∧ ChangesOnly [.gov] s t

/-- O23. The limit of an update (R149): in RUN the smallest term that applies, with the first of equals as its name; in JOG the jog
speed or 0; 0 with STOP elsewhere.  The demand's arrival at 0 ends HALTING, TRIPPING, a reversal and a wind-down (R153, R156,
R159). -/
def Obligations.UpdateComposesTheLimit : Prop :=
  ∀ s : State, s.powered = true →
    ∃ t, exec .governorUpdate s = .next t ∧ t.gov.target = s.gov.target ∧ t.gov.causes = s.gov.causes
      ∧ t.gov.tripCount = s.gov.tripCount ∧ t.gov.jogTimer = s.gov.jogTimer
      ∧ (let cure := if s.oven.operating then s.oven.cureLimit else none
         let hunt := if s.huntCondition then s.huntSpeedInForce else none
         s.gov.state = .run →
           t.gov.state = .run ∧ t.gov.direction = s.gov.direction
           ∧ t.gov.limit ≤ s.gov.target ∧ (∀ m, s.maxSpeedInForce = some m → t.gov.limit ≤ m)
           ∧ (∀ c, cure = some c → t.gov.limit ≤ c) ∧ (∀ h, hunt = some h → t.gov.limit ≤ h)
           ∧ (t.gov.limit = s.gov.target ∨ some t.gov.limit = s.maxSpeedInForce ∨ some t.gov.limit = cure
               ∨ some t.gov.limit = hunt)
           ∧ t.gov.term = (if t.gov.limit = s.gov.target then .target
               else if s.maxSpeedInForce = some t.gov.limit then .maxSpeed
               else if cure = some t.gov.limit then .cure else .hunt))
      ∧ (s.gov.state = .jog →
          (s.gov.jogTimer.isSome = true → s.gov.reversalPending = false → 0 < s.geo (·.jogSpeed) →
            t.gov.limit = s.geo (·.jogSpeed) ∧ t.gov.term = .jog)
          ∧ (s.gov.jogTimer = none ∨ s.gov.reversalPending = true → t.gov.limit = 0 ∧ t.gov.term = .stop)
          ∧ (s.gov.reversalPending = true → t.gov.demand = 0 →
              t.gov.state = .jog ∧ t.gov.reversalPending = false
                ∧ t.gov.direction = s.gov.jogDirection.getD s.gov.direction)
          ∧ (s.gov.reversalPending = false → s.gov.jogTimer = none → t.gov.demand = 0 →
              t.gov.state = .halt ∧ t.gov.jogDirection = none ∧ t.gov.direction = s.gov.direction))
      ∧ (s.gov.state = .halting → t.gov.limit = 0 ∧ t.gov.term = .stop
          ∧ t.gov.state = if t.gov.demand = 0 then .halt else .halting)
      ∧ (s.gov.state = .tripping → t.gov.limit = 0 ∧ t.gov.term = .stop
          ∧ t.gov.demand = s.gov.demand - max 1 (s.geo (·.tripDeceleration) * 10 / 1000)
          ∧ t.gov.state = if t.gov.demand = 0 then .tripped else .tripping)
      ∧ (s.gov.state = .halt ∨ s.gov.state = .tripped →
          t.gov.state = s.gov.state ∧ t.gov.limit = 0 ∧ t.gov.term = .stop ∧ t.gov.demand = s.gov.demand)

/-- O24. R154: a fall of BATCHER_READY in RUN sets the target to 0 and enters HALTING as a Halt does; in any other state it changes
nothing; a Halt and a fall in either order bring the same state. -/
def Obligations.BatcherFallHalts : Prop :=
  ∀ s : State,
    (s.gov.state = .run → deliverPoint batcherPoint false s =
      s.putGov { s.gov with target := 0, state := if s.gov.demand = 0 then .halt else .halting })
    ∧ (s.gov.state ≠ .run → deliverPoint batcherPoint false s = s)
    ∧ deliverPoint batcherPoint true s = s
    ∧ (haltRule (deliverPoint batcherPoint false s)).1.gov.state = (deliverPoint batcherPoint false (haltRule s).1).gov.state

/-- O25. A trip request by the governor's state (R158, R159): ESTOP brings the demand to 0 and TRIPPED at once; another cause ramps a
moving line and trips a resting one; the cause joins the set, and a new cause latches TRIP with the set. -/
def Obligations.TripRequestsTaken : Prop :=
  ∀ (c : TripCause) (s : State),
    let t := requestTrip c s
    t.gov.causes = s.gov.causes.insert c
    ∧ (c = .estop → t.gov.state = .tripped ∧ t.gov.demand = 0)
    ∧ (c ≠ .estop → t.gov.demand = s.gov.demand
        ∧ (s.gov.state = .run ∨ s.gov.state = .halting ∨ s.gov.state = .jog →
            t.gov.state = if s.gov.demand = 0 then .tripped else .tripping)
        ∧ (s.gov.state = .halt → t.gov.state = .tripped)
        ∧ (s.gov.state = .tripping ∨ s.gov.state = .tripped → t.gov.state = s.gov.state))
    ∧ t.gov.tripCount = (if s.gov.state = .tripping ∨ s.gov.state = .tripped then s.gov.tripCount
        else satInc s.gov.tripCount)
    ∧ (s.gov.state = .jog → t.gov.jogTimer = none ∧ t.gov.jogDirection = none ∧ t.gov.reversalPending = false)
    ∧ t.gov.target = s.gov.target ∧ t.gov.direction = s.gov.direction
    ∧ (s.gov.causes.has c = true → t.link = s.link)
    ∧ (s.gov.causes.has c = false → s.link.state = .ready → Latched (.trip (s.gov.causes.insert c)) s t)
    ∧ ChangesOnly [.gov, .link] s t

/-! ### Requests: judging -/

/-- O26. While the link is STARTING every request but Identify is answered NOT_READY, and Identify in full; in READY a kind that is no
request kind is answered UNKNOWN_KIND and a body of another length BAD_LENGTH with the expected length; none of these changes anything
else (R182, R186, R192, R195).  A reply frame's kind is the request's kind plus 0x80 for a request kind below 0x80, and 0xFF otherwise,
with the request's tag and the body formed (R183).  The clause of `requestOf f.kind = none` is where `unknownKind` (UNKNOWN_KIND)
completes: its frame is its three fields. -/
def Obligations.RequestsJudged : Prop :=
  (∀ (f : Frame) (body : List Byte),
    (f.kind.toNat < 0x80 → (replyFrame f body).kind.toNat = f.kind.toNat + 0x80)
    ∧ (0x80 ≤ f.kind.toNat → (replyFrame f body).kind = 0xFF)
    ∧ (replyFrame f body).tag = f.tag ∧ (replyFrame f body).body = body)
  ∧ ∀ (s : State) (i : Instr) (f : Frame), s.powered = true → s.link.queue = [] → s.link.restart ≠ .due →
    commandFrame i = some f →
    (s.link.state = .starting → f.kind ≠ 0x01 →
      ∃ t, exec i s = .next t ∧ Served [] s t f [0x01])
    ∧ (s.link.state = .starting → f.kind = 0x01 → f.body = [] →
      ∃ t, exec i s = .next t ∧ Served [] s t f (identifyReply s))
    ∧ (s.link.state = .ready → requestOf f.kind = none →
      ∃ t, exec i s = .next t ∧ Served [] s t f [0x02])
    ∧ (∀ r, s.link.state = .ready → requestOf f.kind = some r → f.body.length ≠ r.bodyLength →
      ∃ t, exec i s = .next t ∧ Served [] s t f (0x03 :: beBytes 2 r.bodyLength))

/-- O27. A refused request changes nothing but the link (R182): whatever a request's own rule answers other than OK, it leaves the rest of
the state as it was; a dropped insertion of Declare Roll or Insert
Marker keeps the tags (R38). -/
def Obligations.RefusalsChangeNothing : Prop :=
  ∀ (r : RequestKind) (body : List Byte) (s t : State) (code : Byte) (rest : List Byte),
    TrackInv s → ownRule r body s = (t, some (code :: rest)) → code ≠ 0x00 →
    (r ≠ .fetchRollReport ∧ r ≠ .fetchChanges ∧ r ≠ .declareRoll ∧ r ≠ .insertMarker → t = s)
    ∧ (r = .fetchRollReport ∨ r = .fetchChanges → t = s ∧ code = 0x11)
    ∧ (r = .declareRoll ∨ r = .insertMarker → t = s ∨ (code = 0x10 ∧ t.tags = s.tags ∧ ChangesOnly [.track, .link] s t))

/-! ### Requests: reading -/

/-- O28. The reading requests change nothing and answer the state as it stands (R9, R40, R88, R111, R116, R175, R176, R192, R193).  That the
requests-taken count in a Get Status reply includes that request, the bytes of an absent measurement and trim in Get Station, and
the unused bits of Census, Read Track, Get Station and Get Status are the model's choices (log entries 28, 29 and 31), as are that a field
narrower than its value (r, the reverse deficit) carries its low bits, the codes of the true or false fields, the order of the pending
entries and the active job id with no job active (log entries 16, 34, 35 and 36). -/
def Obligations.ReadingRequestsAnswer : Prop :=
  ∀ (s : State) (tag : Byte), s.listening = true →
    (∃ t, exec (.identify tag []) s = .next t ∧ Served [] s t (requestFrame .identify tag []) (identifyReply s))
    ∧ (∃ t, exec (.getStatus tag []) s = .next t
        ∧ Served [] s t (requestFrame .getStatus tag []) (statusReply (s.taking (requestFrame .getStatus tag []))))
    ∧ (∃ t, exec (.census tag []) s = .next t ∧ Served [] s t (requestFrame .census tag []) (censusReply s))
    ∧ (∀ g, s.geom.working = some g →
        (∃ t, exec (.getGeometry tag [0x00]) s = .next t
          ∧ Served [] s t (requestFrame .getGeometry tag [0x00])
              (0x00 :: 1 :: flagByte s.geom.storeMatch :: geometryBytes g))
        ∧ (∃ t, exec (.getGateTable tag) s = .next t
          ∧ Served [] s t (requestFrame .getGeometry tag [0x01]) (gateTableReply s)))
    ∧ ∀ b : Byte,
        (∀ i, slotOf b.toNat = some i →
          ∃ t, exec (.readJob tag [b]) s = .next t ∧ Served [] s t (requestFrame .readJob tag [b]) (jobReply s i))
        ∧ (∀ k, stationOf b.toNat = some k →
          ∃ t, exec (.getStation tag [b]) s = .next t
            ∧ Served [] s t (requestFrame .getStation tag [b]) (getStationReply s k))
        ∧ (∀ p, pointOf b.toNat = some p →
          ∃ t, exec (.readPoint tag [b]) s = .next t ∧ Served [] s t (requestFrame .readPoint tag [b]) (pointReply s p))
        ∧ (b.toNat ≤ 127 →
          ∃ t, exec (.readTrack tag [b]) s = .next t
            ∧ Served [] s t (requestFrame .readTrack tag [b]) (trackReply s b.toNat))

/-! ### Requests: geometry -/

/-- O29. Set Geometry: its checks in their order (R2, R3, R4), the first that fails giving the reply with nothing changed;
accepted (R5, R17, R87, R112, R146), the record is the working geometry with its gate table, the store-match flag is false,
the track and web measure start afresh, every station is OFF and every channel UNUSED and unreferenced. -/
def Obligations.SetGeometryTaken : Prop :=
  ∀ (s : State) (tag : Byte) (body : List Byte), s.listening = true → body.length = 410 →
    let f := requestFrame .setGeometry tag body
    let g := readGeometry body
    let refused (bytes : List Byte) := ∃ t, exec (.setGeometry tag body) s = .next t ∧ Served [] s t f bytes
    (s.link.serviceAccess = false → refused [0x06])
    ∧ (s.link.serviceAccess = true → s.gov.state ≠ .halt → refused [0x07])
    ∧ (s.link.serviceAccess = true → s.gov.state = .halt → s.jobActive = true → refused [0x08])
    ∧ (s.link.serviceAccess = true → s.gov.state = .halt → s.jobActive = false → g.rangesHold = false → refused [0x04])
    ∧ (∀ item, s.link.serviceAccess = true → s.gov.state = .halt → s.jobActive = false → g.rangesHold = true →
        item ∈ g.blamed → (∀ x ∈ g.blamed, item ≤ x) → refused (0x05 :: beBytes 2 item))
    ∧ (s.link.serviceAccess = true → s.gov.state = .halt → s.jobActive = false → g.rangesHold = true → g.blamed = [] →
      ∃ t, exec (.setGeometry tag body) s = .next t
        ∧ t.geom = { s.geom with working := some g, storeMatch := false, gates := g.gateTable }
        ∧ t.web = { s.web with w := 0, wmax := 0, deficit := 0, reverseLimit := false, webLimit := false, lastSeam := none }
        ∧ t.tags = [] ∧ t.track.declarations = [] ∧ t.track.nextId = s.track.nextId
        ∧ t.reports = { s.reports with current := none }
        ∧ (∀ k, (t.station k).mode = .off ∧ (t.station k).slot = none ∧ (t.station k).hold = 0
            ∧ (t.station k).hasPrinted = false ∧ (t.station k).gap = .none ∧ (t.station k).reasons.seam = false)
        ∧ (∀ k, (t.channel k).state = .unused ∧ (t.channel k).revolution = 0 ∧ (t.channel k).referenced = false
            ∧ (t.channel k).wExp = none ∧ (t.channel k).span = .none ∧ (t.channel k).flight = (s.channel k).flight
            ∧ (t.channel k).lastMeas = (s.channel k).lastMeas ∧ (t.channel k).trims = (s.channel k).trims)
        ∧ t.oven.operating = false ∧ t.oven.bandIn = s.oven.bandIn ∧ t.oven.cureLimit = none
        ∧ LinkServed s t ∧ Answered f [0x00] t
        ∧ ChangesOnly [.geom, .web, .track, .reports, .channels, .stations, .changeover, .oven, .link, .freeIx] s t)

/-- O30. Save Geometry (R7): without service access or a geometry it is refused; accepted it starts the write of the working geometry
and forms no reply; when the write completes, the store holds the record with its CRC, store-match is true, and the OK reply is
formed. -/
def Obligations.SaveGeometryWrites : Prop :=
  ∀ (s : State) (tag : Byte),
    let f := requestFrame .saveGeometry tag []
    (s.listening = true →
      (s.link.serviceAccess = false → ∃ t, exec (.saveGeometry tag []) s = .next t ∧ Served [] s t f [0x06])
      ∧ (s.link.serviceAccess = true → s.geom.working = none →
          ∃ t, exec (.saveGeometry tag []) s = .next t ∧ Served [] s t f [0x0A])
      ∧ (∀ g, s.link.serviceAccess = true → s.geom.working = some g →
          exec (.saveGeometry tag []) s = .next ((s.taking f).putGeom { s.geom with writing := some g })))
    ∧ (∀ g rest, s.powered = true → s.geom.writing = some g → s.link.queue = f :: rest →
        ∃ t, exec .saveGeometryComplete s = .next t
          ∧ t.geom = { s.geom with stored := .holds (geometryBytes g ++ crcBytes (geometryBytes g)), storeMatch := true, writing := none }
          ∧ t.link.queue = f :: rest
          ∧ (t.link.waiting = some (replyFrame f [0x00]) ∨ t.link.sending = some (.reply (replyFrame f [0x00])))
          ∧ ChangesOnly [.geom, .link] s t)

/-- O31. A record that fits its fields and passes its checks, once saved, is read back as it was written (R8, R198). -/
def Obligations.SavedGeometryReadsBack : Prop :=
  ∀ g : GeomRecord, g.fits = true → g.rangesHold = true → g.blamed = [] → (storeImage g).good = some g

/-- O32. The gate table of a record that passes its checks is sorted by position, and by R10's order among equal positions; it holds each
installed station's LIFT, NIP and CLEAR gate at its position, OVEN_IN and OVEN_OUT with an oven, and no other gate but EXIT, with
which it ends (R10). -/
def Obligations.GateTableInOrder : Prop :=
  ∀ g : GeomRecord, g.rangesHold = true → g.blamed = [] →
    (g.gateTable.map (·.pos)).Pairwise (· ≤ ·)
    ∧ g.gateTable.Pairwise Gate.before
    ∧ g.gateTable.length = 3 * g.installed + (if 1 ≤ g.zoneCount then 3 else 1)
    ∧ g.gateTable.getLast? = some ⟨.exit, g.exitPos⟩
    ∧ (∀ k : StationIx, k.val < g.installed →
        let e := g.stations[k]
        ⟨.lift k, e.nipPos - e.liftLeadMm * 1000⟩ ∈ g.gateTable ∧ e.liftLeadMm * 1000 ≤ e.nipPos
        ∧ ⟨.nip k, e.nipPos⟩ ∈ g.gateTable
        ∧ ⟨.clear k, e.nipPos + e.trailGuardMm * 1000⟩ ∈ g.gateTable)
    ∧ (1 ≤ g.zoneCount → ⟨.ovenIn, g.ovenIn⟩ ∈ g.gateTable
        ∧ ∀ n : ZoneIx, n.val + 1 = g.zoneCount → ⟨.ovenOut, g.zoneEnds[n]⟩ ∈ g.gateTable)

/-! ### Requests: jobs -/

/-- O33. Load Job: its checks in their order, the first that fails giving the reply with nothing changed, a failed combination blaming the
smallest item (R114).  Accepted it stores the record with every setpoint in its range and the structural fields as written, and reports
the clamped fields (R114, R115): a setpoint in its range is stored as written, one below or above it takes the nearest end, and an
offset is reduced modulo R into (-R/2, R/2]. -/
def Obligations.LoadJobStoresInRange : Prop :=
  ∀ (s : State) (tag : Byte) (body : List Byte), s.listening = true → body.length = 186 →
    let r := readJobRecord (body.drop 1)
    let refused (bytes : List Byte) := ∃ t, exec (.loadJob tag body) s = .next t ∧ Served [] s t (requestFrame .loadJob tag body) bytes
    (slotOf (be (body.take 1)) = none → refused [0x04])
    ∧ ∀ i : SlotIx, slotOf (be (body.take 1)) = some i →
      ((s.slot i).isActive = true ∨ (s.slot i).isStaged = true → refused [0x0D])
      ∧ ((s.slot i).isActive = false → (s.slot i).isStaged = false → r.structureHolds = false → refused [0x04])
      ∧ (∀ item, (s.slot i).isActive = false → (s.slot i).isStaged = false → r.structureHolds = true →
          item ∈ r.blamed (s.geom.working.map (·.installed)) →
          (∀ x ∈ r.blamed (s.geom.working.map (·.installed)), item ≤ x) → refused (0x05 :: beBytes 2 item))
      ∧ ((s.slot i).isActive = false → (s.slot i).isStaged = false → r.structureHolds = true →
          r.blamed (s.geom.working.map (·.installed)) = [] →
        ∃ t j, exec (.loadJob tag body) s = .next t
          ∧ Served [.slots] s t (requestFrame .loadJob tag body)
              (0x00 :: byte r.clampedItems.length :: beBytes 2 (r.clampedItems.head?.getD 0))
          ∧ t.slot i = .loaded j ∧ (∀ n, n ≠ i → t.slot n = s.slot n)
          ∧ j.id = r.id ∧ j.rpt = r.rpt ∧ j.reference.val + 1 = r.reference
          ∧ (1 ≤ j.gain ∧ j.gain ≤ 16) ∧ j.deadBand ≤ 2000 ∧ (10 ≤ j.trimLimit ∧ j.trimLimit ≤ 5000)
          ∧ (1000 ≤ j.window ∧ j.window ≤ j.rpt / 4) ∧ (1 ≤ j.missLimit ∧ j.missLimit ≤ 8)
          ∧ (500 ≤ j.huntSpeed ∧ j.huntSpeed ≤ 6000) ∧ (100 ≤ j.maxSpeed ∧ j.maxSpeed ≤ 20000)
          ∧ (100 ≤ j.dwell ∧ j.dwell ≤ 6000) ∧ j.haltDwell ≤ 6000
          ∧ j.gain = max 1 (min 16 r.gain) ∧ j.deadBand = min 2000 r.deadBand ∧ j.trimLimit = max 10 (min 5000 r.trimLimit)
          ∧ j.window = max 1000 (min (r.rpt / 4) r.window) ∧ j.missLimit = max 1 (min 8 r.missLimit)
          ∧ j.huntSpeed = max 500 (min 6000 r.huntSpeed) ∧ j.maxSpeed = max 100 (min 20000 r.maxSpeed)
          ∧ j.dwell = max 100 (min 6000 r.dwell) ∧ j.haltDwell = min 6000 r.haltDwell
          ∧ ∀ k : StationIx, modeOf r.entries[k].mode = some j.entries[k].mode
              ∧ (j.entries[k].keep = true ↔ r.entries[k].keep = 1)
              ∧ -(j.rpt : Int) < 2 * j.entries[k].offset ∧ 2 * j.entries[k].offset ≤ j.rpt
              ∧ (∃ n : Int, j.entries[k].offset = r.entries[k].offset + n * j.rpt)
              ∧ -2000 ≤ j.entries[k].stretch ∧ j.entries[k].stretch ≤ 2000
              ∧ j.deadBand ≤ j.entries[k].tolerance ∧ j.entries[k].tolerance ≤ 5000
              ∧ j.entries[k].stretch = max (-2000) (min 2000 r.entries[k].stretch)
              ∧ j.entries[k].tolerance = max j.deadBand (min 5000 r.entries[k].tolerance))

/-- O34. Start Job: its checks in their order, the first that fails giving the reply with nothing changed, a job that uses stations above N
blaming the first of them (R117).  Accepted, in a state whose track is in order (R117, R133; `TrackInv`, which every step keeps): the
slot is ACTIVE, every station takes its mode and the slot, every channel is flushed, the hold counts are recounted, supervision takes
the job's dwell when there is an oven, and a station that is UP with nothing to hold it begins to lower. -/
def Obligations.StartJobTakesEffect : Prop :=
  ∀ (s : State) (tag b : Byte), s.listening = true →
    let refused (bytes : List Byte) := ∃ t, exec (.startJob tag [b]) s = .next t ∧ Served [] s t (requestFrame .startJob tag [b]) bytes
    (slotOf b.toNat = none → refused [0x04])
    ∧ ∀ i : SlotIx, slotOf b.toNat = some i →
      (s.gov.state ≠ .halt → refused [0x07])
      ∧ (s.gov.state = .halt → s.geom.working = none → refused [0x0A])
      ∧ ∀ g, s.gov.state = .halt → s.geom.working = some g →
        (s.jobActive = true → refused [0x08])
        ∧ (s.jobActive = false → (s.slot i).job = none → refused [0x11])
        ∧ ∀ j, s.jobActive = false → (s.slot i).job = some j →
          (∀ k : StationIx, g.installed ≤ k.val → j.entries[k].mode ≠ .off →
            (∀ m : StationIx, g.installed ≤ m.val → m.val < k.val → j.entries[m].mode = .off) →
            refused (0x05 :: beBytes 2 (16 + 5 * k.val)))
          ∧ (TrackInv s → s.changeover.state = .none → (∀ k : StationIx, g.installed ≤ k.val → j.entries[k].mode = .off) →
            ∃ t, exec (.startJob tag [b]) s = .next t ∧ t.slot i = .active j ∧ (∀ n, n ≠ i → t.slot n = s.slot n)
              ∧ (∀ k, (t.station k).mode = j.entries[k].mode ∧ (t.station k).slot = some i
                  ∧ (s.upTrue k = true → (t.station k).hasPrinted = false)
                  ∧ (s.installed k = true → (t.station k).hold = s.seamsUnder k))
              ∧ (∀ k, (t.channel k).state = flushedState k (some j) j.entries[k].mode ∧ (t.channel k).wExp = none
                  ∧ (t.channel k).misses = 0 ∧ (t.channel k).outOfTol = false ∧ (t.channel k).flight = (s.channel k).flight)
              ∧ (∀ k, s.installed k = true → s.upTrue k = true → (s.station k).state = .up → (t.station k).reasons.isEmpty = true →
                  (t.station k).state = .lowering ∧ (t.station k).lowerOutput = true)
              ∧ (1 ≤ g.zoneCount → t.oven.operating = true ∧ t.oven.dwell = some j.dwell ∧ t.oven.watch = .clear)
              ∧ (g.zoneCount = 0 → t.oven = s.oven)
              ∧ LinkServed s t ∧ Answered (requestFrame .startJob tag [b]) [0x00] t
              ∧ ChangesOnly [.track, .reports, .channels, .stations, .slots, .oven, .link] s t)

/-- O35. An accepted End Job (R118, R134): the slot is LOADED with its record, every station is OFF and lifted, every channel UNUSED and
supervision off; an End Job out of HALT, without a job or under a changeover is refused. -/
def Obligations.EndJobTakesEffect : Prop :=
  ∀ (s : State) (tag : Byte), s.listening = true →
    let f := requestFrame .endJob tag []
    (s.gov.state ≠ .halt → ∃ t, exec (.endJob tag []) s = .next t ∧ Served [] s t f [0x07])
    ∧ (s.gov.state = .halt → s.activeSlot = none → ∃ t, exec (.endJob tag []) s = .next t ∧ Served [] s t f [0x09])
    ∧ (∀ i, s.gov.state = .halt → s.activeSlot = some i → s.changeover.state ≠ .none →
        ∃ t, exec (.endJob tag []) s = .next t ∧ Served [] s t f [0x0B])
    ∧ (∀ i j, s.gov.state = .halt → s.activeSlot = some i → s.slot i = .active j → s.changeover.state = .none →
        ∃ t, exec (.endJob tag []) s = .next t ∧ t.slot i = .loaded j ∧ (∀ n, n ≠ i → t.slot n = s.slot n)
          ∧ (∀ k, (t.station k).mode = .off ∧ (t.station k).slot = none ∧ (t.station k).hasPrinted = false
              ∧ (t.station k).reasons.jobIdle = true ∧ (t.station k).reasons.operator = false
              ∧ (t.station k).hold = (s.station k).hold
              ∧ (t.station k).state ≠ .down ∧ (t.station k).state ≠ .lowering)
          ∧ (∀ k, (t.channel k).state = .unused ∧ (t.channel k).wExp = none ∧ (t.channel k).flight = (s.channel k).flight)
          ∧ t.oven.operating = false ∧ t.oven.bandIn = s.oven.bandIn
          ∧ LinkServed s t ∧ Answered f [0x00] t
          ∧ ChangesOnly [.track, .reports, .channels, .stations, .slots, .oven, .link, .freeIx] s t)

/-- O36. Stage Job: its checks in their order, the first that fails giving the reply with nothing changed (R119); that a job which uses
several stations above N blames the first of them is the model's reading (log entry 33).  Accepted it sets up the changeover (R119).
Cancel Stage with no station switched takes it back, and with one switched, or while SETTLING, is answered TOO_LATE (R125). -/
def Obligations.StageAndCancel : Prop :=
  ∀ (s : State) (tag : Byte), s.listening = true →
    (∀ b : Byte,
      let refused (bytes : List Byte) := ∃ t, exec (.stageJob tag [b]) s = .next t ∧ Served [] s t (requestFrame .stageJob tag [b]) bytes
      (slotOf b.toNat = none → refused [0x04])
      ∧ ∀ i : SlotIx, slotOf b.toNat = some i →
        (s.geom.working = none → refused [0x0A])
        ∧ ∀ g, s.geom.working = some g →
          (s.activeSlot = none → refused [0x09])
          ∧ ∀ (o : SlotIx) (jOld : Job), s.activeSlot = some o → s.slot o = .active jOld →
            (s.changeover.state ≠ .none → refused [0x0B])
            ∧ (s.changeover.state = .none → (s.slot i).job = none → refused [0x11])
            ∧ ∀ jNew, s.changeover.state = .none → (s.slot i).job = some jNew →
              (o = i → refused [0x0D])
              ∧ (∀ k : StationIx, o ≠ i → g.installed ≤ k.val → jNew.entries[k].mode ≠ .off →
                (∀ m : StationIx, g.installed ≤ m.val → m.val < k.val → jNew.entries[m].mode = .off) →
                refused (0x05 :: beBytes 2 (16 + 5 * k.val)))
              ∧ (o ≠ i → (∀ k : StationIx, g.installed ≤ k.val → jNew.entries[k].mode = .off) →
                (jNew.rpt ≠ jOld.rpt → refused [0x0E, 0])
                ∧ (∀ k : StationIx, jNew.rpt = jOld.rpt → k.val < g.installed →
                  ¬ ((jOld.entries[k].mode = .off) ↔ (jNew.entries[k].mode = .off)) →
                  (∀ m : StationIx, m.val < k.val → ((jOld.entries[m].mode = .off) ↔ (jNew.entries[m].mode = .off))) →
                  refused [0x0E, byte (k.val + 1)])
                ∧ (jNew.rpt = jOld.rpt →
                  (∀ k : StationIx, k.val < g.installed → ((jOld.entries[k].mode = .off) ↔ (jNew.entries[k].mode = .off))) →
                  ∃ t, exec (.stageJob tag [b]) s = .next t ∧ Served [.slots, .changeover, .oven] s t (requestFrame .stageJob tag [b]) [0x00]
                    ∧ t.slot i = .staged jNew ∧ (∀ n, n ≠ i → t.slot n = s.slot n)
                    ∧ t.changeover = ⟨.pending, some o, some i,
                        some ⟨jOld.id, jOld.maxSpeed, jOld.huntSpeed, jOld.dwell, jOld.haltDwell⟩, none, Vector.replicate 16 false, .old⟩)))
    ∧ (let f := requestFrame .cancelStage tag []
       (s.changeover.state = .none → ∃ t, exec (.cancelStage tag []) s = .next t ∧ Served [] s t f [0x11])
       ∧ (s.changeover.state = .settling → ∃ t, exec (.cancelStage tag []) s = .next t ∧ Served [] s t f [0x0C])
       ∧ (s.changeover.state = .pending ∨ s.changeover.state = .bound →
          (s.changeover.noneSwitched = false → ∃ t, exec (.cancelStage tag []) s = .next t ∧ Served [] s t f [0x0C])
          ∧ (∀ i j, s.changeover.noneSwitched = true → s.changeover.stagedSlot = some i → s.slot i = .staged j →
              ∃ t, exec (.cancelStage tag []) s = .next t ∧ Served [.track, .slots, .changeover, .oven] s t f [0x00]
                ∧ t.slot i = .loaded j ∧ (∀ n, n ≠ i → t.slot n = s.slot n) ∧ t.changeover = Changeover.cleared
                ∧ t.tags.map (·.id) = s.tags.map (·.id)
                ∧ ∀ b, s.changeover.state = .bound → s.changeover.boundSeam = some b →
                    ∀ x ∈ t.tags, x.id = b.id → x.isBound = false)))

/-! ### Requests: governor -/

/-- O37. Run by the governor's state and, in HALT, by its checks in their order (R151); accepted with every guard closed it sets the
direction forward and enters RUN; with a guard open and the demand 0 the governor is TRIPPED at once with GUARD (R108).  The bits
of a cause word that section 11.2 does not name are the model's choice (log entry 31). -/
def Obligations.RunTaken : Prop :=
  ∀ (s : State) (tag : Byte), s.listening = true →
    let f := requestFrame .run tag []
    let answers (bytes : List Byte) := ∃ t, exec (.run tag []) s = .next t ∧ Served [] s t f bytes
    (s.gov.state = .run → answers [0x00])
    ∧ (s.gov.state = .halting ∨ s.gov.state = .jog → answers [0x07])
    ∧ (s.gov.state = .tripping ∨ s.gov.state = .tripped → answers (0x0F :: beBytes 2 s.gov.causes.word))
    ∧ (s.gov.state = .halt → s.jobActive = false → answers [0x09])
    ∧ (s.gov.state = .halt → s.jobActive = true → s.debounced estopPoint = false → answers [0x0F, 0, 1])
    ∧ (s.gov.state = .halt → s.jobActive = true → s.debounced estopPoint = true → s.debounced mainDrivePoint = false →
        answers [0x0F, 0, 2])
    ∧ (s.gov.state = .halt → s.jobActive = true → s.debounced estopPoint = true → s.debounced mainDrivePoint = true →
        s.debounced batcherPoint = false → answers [0x0F, 2, 0])
    ∧ (s.gov.state = .halt → s.jobActive = true → s.debounced estopPoint = true → s.debounced mainDrivePoint = true →
        s.debounced batcherPoint = true →
        ((∀ k, s.installed k = true → s.guardClosed k = true) →
          ∃ t, exec (.run tag []) s = .next t ∧ Served [.gov] s t f [0x00]
            ∧ t.gov = { s.gov with state := .run, direction := .forward })
        ∧ (∀ k, s.installed k = true → s.guardClosed k = false → s.gov.demand = 0 →
          ∃ t, exec (.run tag []) s = .next t ∧ t.gov.state = .tripped ∧ t.gov.causes.guard = true
            ∧ LinkServed s t ∧ Answered f [0x00] t ∧ ChangesOnly [.gov, .link] s t))

/-- O38. Set Speed Target stores the speed, clamped to 20,000, in every state, and answers with the stored target, the clamp and the
last update's limit and term (R152).  Halt is never refused (R153); Clear Trip by state, and in TRIPPED by the cause conditions that
hold (R160).  (A Halt in JOG with the demand already 0 is in HALT at once: the model's reading, log entry 23.) The bits of a cause word
that section 11.2 does not name, and the code of the clamp in the reply, are the model's choices (log entries 31 and 34). -/
def Obligations.TargetHaltAndClearTripTaken : Prop :=
  ∀ (s : State) (tag : Byte), s.listening = true →
    (∀ hi lo : Byte, let v := hi.toNat * 256 + lo.toNat
      ∃ t, exec (.setSpeedTarget tag [hi, lo]) s = .next t
        ∧ Served [.gov] s t (requestFrame .setSpeedTarget tag [hi, lo])
            (0x00 :: (beBytes 2 (min v 20000) ++ [if 20000 < v then 1 else 0] ++ beBytes 2 s.gov.limit ++ [byte s.gov.term.code]))
        ∧ t.gov = { s.gov with target := min v 20000 })
    ∧ (∃ t, exec (.halt tag []) s = .next t ∧ Served [.gov] s t (requestFrame .halt tag []) [0x00]
      ∧ (s.gov.state = .run → t.gov = { s.gov with state := if s.gov.demand = 0 then .halt else .halting })
      ∧ (s.gov.state = .jog → t.gov.jogTimer = none ∧ t.gov.limit = 0 ∧ t.gov.reversalPending = false
          ∧ t.gov.state = (if s.gov.demand = 0 then .halt else .jog) ∧ t.gov.demand = s.gov.demand)
      ∧ (s.gov.state ≠ .run → s.gov.state ≠ .jog → t.gov = s.gov))
    ∧ (let f := requestFrame .clearTrip tag []
       let answers (bytes : List Byte) := ∃ t, exec (.clearTrip tag []) s = .next t ∧ Served [] s t f bytes
       (s.gov.state = .tripping → answers [0x07])
       ∧ (s.gov.state ≠ .tripping → s.gov.state ≠ .tripped → answers [0x00])
       ∧ (s.gov.state = .tripped →
          (s.debounced estopPoint = true → s.debounced mainDrivePoint = true → s.web.reverseLimit = false →
            s.web.webLimit = false → (∀ k, s.installed k = true → (s.station k).state ≠ .stuck) →
            ∃ t, exec (.clearTrip tag []) s = .next t ∧ Served [.gov] s t f [0x00]
              ∧ t.gov = { s.gov with state := .halt, causes := TripSet.empty })
          ∧ ((s.debounced estopPoint = false ∨ s.debounced mainDrivePoint = false ∨ s.web.reverseLimit = true
              ∨ s.web.webLimit = true ∨ ∃ k, s.installed k = true ∧ (s.station k).state = .stuck) →
            answers (0x0F :: beBytes 2 s.causeConditions))))

/-- O39. Jog (R155, R156): a direction code that is neither is refused in every state; by the governor's state, and in HALT and JOG by its
checks in their order.  From HALT it sets the direction, enters JOG and starts the timer with the duration held at 1,000; with a guard open
at an installed station that entry trips the line with GUARD, and with the demand 0 the governor is TRIPPED at once (R108).  In JOG it
renews the timer, changing the direction at once at demand 0 and by a pending reversal above it.  A duration of 0 is accepted: in HALT
it returns to HALT at the request.  The timer's expiry stops it, brings the limit to 0 and discards a pending reversal with the
jog direction set back; with the demand already 0 the governor is in HALT at once (the model's reading, log entry 23).  That the
limit's term becomes STOP at the expiry itself is the model's reading (log entry 11).  The bits of a cause word that section 11.2 does not
name, and the code of the clamp in the reply, are the model's choices (log entries 31 and 34). -/
def Obligations.JogTakenAndExpires : Prop :=
  (∀ (s : State) (tag d hi lo : Byte), s.listening = true → directionOf d.toNat = none →
    ∃ t, exec (.jog tag [d, hi, lo]) s = .next t ∧ Served [] s t (requestFrame .jog tag [d, hi, lo]) [0x04])
  ∧ (∀ (s : State) (tag d hi lo : Byte) (dir : Direction), s.listening = true → directionOf d.toNat = some dir →
    let ms := hi.toNat * 256 + lo.toNat
    let f := requestFrame .jog tag [d, hi, lo]
    let okBytes := 0x00 :: (beBytes 2 (min ms 1000) ++ [if 1000 < ms then 1 else 0])
    let answers (bytes : List Byte) := ∃ t, exec (.jog tag [d, hi, lo]) s = .next t ∧ Served [] s t f bytes
    (s.gov.state = .run ∨ s.gov.state = .halting → answers [0x07])
    ∧ (s.gov.state = .tripping ∨ s.gov.state = .tripped → answers (0x0F :: beBytes 2 s.gov.causes.word))
    ∧ (s.gov.state = .halt ∨ s.gov.state = .jog → s.geom.working = none → answers [0x0A])
    ∧ (s.gov.state = .halt ∨ s.gov.state = .jog → s.geometryValid = true → s.debounced estopPoint = false → answers [0x0F, 0, 1])
    ∧ (s.gov.state = .halt ∨ s.gov.state = .jog → s.geometryValid = true → s.debounced estopPoint = true →
        s.debounced mainDrivePoint = false → answers [0x0F, 0, 2])
    ∧ (∀ k, s.geometryValid = true → s.debounced estopPoint = true → s.debounced mainDrivePoint = true → s.gov.state = .halt →
        s.gov.demand = 0 → s.installed k = true → s.guardClosed k = false →
        ∃ t, exec (.jog tag [d, hi, lo]) s = .next t ∧ t.gov.state = .tripped ∧ t.gov.causes = s.gov.causes.insert .guard
          ∧ t.gov.demand = 0 ∧ t.gov.direction = dir ∧ t.gov.jogTimer = none ∧ t.gov.jogDirection = none
          ∧ t.gov.reversalPending = false ∧ t.gov.tripCount = satInc s.gov.tripCount
          ∧ (s.gov.causes.guard = false → (t.notice 6).pending = true)
          ∧ LinkServed s t ∧ Answered f okBytes t ∧ ChangesOnly [.gov, .link] s t)
    ∧ (s.geometryValid = true → s.debounced estopPoint = true → s.debounced mainDrivePoint = true → 0 < ms →
        (s.gov.state = .halt → (∀ k, s.installed k = true → s.guardClosed k = true) →
          ∃ t, exec (.jog tag [d, hi, lo]) s = .next t ∧ Served [.gov] s t f okBytes
            ∧ t.gov = { s.gov with
                state := .jog, direction := dir, jogDirection := some dir, reversalPending := false
                jogTimer := some (min ms 1000) })
        ∧ (s.gov.state = .jog → s.gov.jogDirection = some dir →
          ∃ t, exec (.jog tag [d, hi, lo]) s = .next t ∧ Served [.gov] s t f okBytes
            ∧ t.gov = { s.gov with jogTimer := some (min ms 1000) })
        ∧ (s.gov.state = .jog → s.gov.jogDirection ≠ some dir →
          ∃ t, exec (.jog tag [d, hi, lo]) s = .next t ∧ Served [.gov] s t f okBytes
            ∧ t.gov.jogDirection = some dir ∧ t.gov.jogTimer = some (min ms 1000) ∧ t.gov.demand = s.gov.demand
            ∧ (s.gov.demand = 0 → t.gov.direction = dir ∧ t.gov.reversalPending = false)
            ∧ (0 < s.gov.demand → t.gov.direction = s.gov.direction
                ∧ (t.gov.reversalPending = true ↔ dir ≠ s.gov.direction))))
    ∧ (s.geometryValid = true → s.debounced estopPoint = true → s.debounced mainDrivePoint = true → ms = 0 →
        (s.gov.state = .halt → s.gov.demand = 0 → (∀ k, s.installed k = true → s.guardClosed k = true) →
          ∃ t, exec (.jog tag [d, hi, lo]) s = .next t ∧ Served [.gov] s t f okBytes
            ∧ t.gov = { s.gov with
                state := .halt, direction := dir, jogDirection := none, reversalPending := false, jogTimer := none
                limit := 0, term := .stop })
        ∧ (s.gov.state = .jog →
          ∃ t, exec (.jog tag [d, hi, lo]) s = .next t ∧ Served [.gov] s t f okBytes ∧ t.gov.jogTimer = none
            ∧ t.gov.limit = 0 ∧ t.gov.term = .stop ∧ t.gov.reversalPending = false ∧ t.gov.demand = s.gov.demand
            ∧ t.gov.state = if s.gov.demand = 0 then .halt else .jog)))
  ∧ ∀ s : State, s.powered = true → s.gov.state = .jog → s.gov.jogTimer.isSome = true →
    ∃ t, exec .jogTimerExpiry s = .next t ∧ t.gov.jogTimer = none ∧ t.gov.limit = 0 ∧ t.gov.term = .stop
      ∧ t.gov.reversalPending = false ∧ t.gov.demand = s.gov.demand ∧ t.gov.direction = s.gov.direction
      ∧ t.gov.target = s.gov.target ∧ t.gov.causes = s.gov.causes
      ∧ (0 < s.gov.demand → t.gov.state = .jog
          ∧ (s.gov.reversalPending = true → t.gov.jogDirection = some s.gov.direction)
          ∧ (∀ d, s.gov.reversalPending = false → s.gov.jogDirection = some d → t.gov.jogDirection = some d))
      ∧ (s.gov.demand = 0 → t.gov.state = .halt ∧ t.gov.jogDirection = none)
      ∧ ChangesOnly [.gov] s t

/-! ### Requests: stations -/

/-- O40. Lift Station, Lower Station and Clear Station Fault (R99, R109, R110): their checks in their order, the first that fails
giving the reply with nothing changed; accepted, the set, the state that follows and the reply that gives both; a Clear Station Fault on
a station that is not in STUCK is answered OK and changes nothing; the governor and the other stations stand.  Bit 7 of the set in the
reply, and the unnamed bits of the cause word, are the model's choices (log entry 31). -/
def Obligations.StationRequestsTaken : Prop :=
  ∀ (s : State) (tag b : Byte), s.listening = true →
    let lifts (bytes : List Byte) :=
      ∃ t, exec (.liftStation tag [b]) s = .next t ∧ Served [] s t (requestFrame .liftStation tag [b]) bytes
    let lowers (bytes : List Byte) :=
      ∃ t, exec (.lowerStation tag [b]) s = .next t ∧ Served [] s t (requestFrame .lowerStation tag [b]) bytes
    let clears (bytes : List Byte) :=
      ∃ t, exec (.clearStationFault tag [b]) s = .next t ∧ Served [] s t (requestFrame .clearStationFault tag [b]) bytes
    (stationOf b.toNat = none → lifts [0x04] ∧ lowers [0x04] ∧ clears [0x04])
    ∧ ∀ k, stationOf b.toNat = some k →
      (s.jobActive = false → lifts [0x09] ∧ lowers [0x09])
      ∧ (s.jobActive = true → (s.station k).mode = .off ∨ s.installed k = false → lifts [0x12] ∧ lowers [0x12])
      ∧ (s.installed k = true → s.jobActive = true → (s.station k).mode ≠ .off →
        (∃ t, exec (.liftStation tag [b]) s = .next t
          ∧ (t.station k).reasons = { (s.station k).reasons with operator := true }
          ∧ ((s.station k).state = .down ∨ (s.station k).state = .lowering →
              (t.station k).lowerOutput = false
              ∧ (t.station k).state = if s.upTrue k && !s.downTrue k then .up else .raising)
          ∧ ((s.station k).state = .stuck ∨ (s.station k).state = .raising → (t.station k).state = (s.station k).state)
          ∧ LinkServed s t ∧ Answered (requestFrame .liftStation tag [b])
              [0x00, byte (t.station k).state.code, byte (t.station k).reasons.code] t
          ∧ OtherStations k s t ∧ ChangesOnly [.track, .reports, .channels, .stations, .link] s t)
        ∧ (∃ t, exec (.lowerStation tag [b]) s = .next t
          ∧ (t.station k).reasons = { (s.station k).reasons with operator := false }
          ∧ ((s.station k).state = .up → (t.station k).reasons.isEmpty = true →
              (t.station k).lowerOutput = true
              ∧ (t.station k).state = if s.downTrue k && !s.upTrue k then .down else .lowering)
          ∧ LinkServed s t ∧ Answered (requestFrame .lowerStation tag [b])
              [0x00, byte (t.station k).state.code, byte (t.station k).reasons.code] t
          ∧ OtherStations k s t ∧ ChangesOnly [.track, .reports, .channels, .stations, .link] s t))
      ∧ (s.installed k = false → clears [0x12])
      ∧ (s.installed k = true → s.downTrue k = true → s.upTrue k = true → clears [0x0F, 4, 0])
      ∧ (s.installed k = true → (s.downTrue k && s.upTrue k) = false → (s.station k).state ≠ .stuck →
          clears [0x00, byte (s.station k).state.code, byte (s.station k).reasons.code])
      ∧ (s.installed k = true → (s.downTrue k && s.upTrue k) = false → (s.station k).state = .stuck →
        ∃ t, exec (.clearStationFault tag [b]) s = .next t
          ∧ (t.station k).reasons = { (s.station k).reasons with fault := false } ∧ (t.station k).stuckCause = none
          ∧ (t.station k).state =
              (if s.upTrue k then (if (t.station k).reasons.isEmpty then .lowering else .up) else .raising)
          ∧ LinkServed s t ∧ Answered (requestFrame .clearStationFault tag [b])
              [0x00, byte (t.station k).state.code, byte (t.station k).reasons.code] t
          ∧ OtherStations k s t ∧ ChangesOnly [.track, .reports, .channels, .stations, .link] s t)

/-! ### Requests: track and reports -/

/-- O41. Declare Roll and Insert Marker (R23, R24, R26, R38): a declaration joins the queue's tail or is refused FULL, and an option that is
neither QUEUE nor HERE is refused; without a geometry HERE and Insert Marker are refused, and a marker beyond X is; a roll head stands at
W - D and a marker at W - D - p under the next free id, which the reply carries; a full track drops either insertion, which is counted
and latched, and answers FULL. -/
def Obligations.InsertionRequestsTaken : Prop :=
  ∀ (s : State) (tag : Byte), s.listening = true → TrackInv s → GeometryInv s →
    (∀ fields : List Byte, fields.length = 6 →
      let f := requestFrame .declareRoll tag (0x00 :: fields)
      (s.track.declarations.length < 2 →
        ∃ t, exec (.declareRollQueue tag (0x00 :: fields)) s = .next t ∧ Served [.track] s t f [0x00, 0, 0]
          ∧ t.track = { s.track with
              declarations := s.track.declarations ++ [⟨be (fields.take 4), be (fields.drop 4)⟩] })
      ∧ (s.track.declarations.length = 2 →
        ∃ t, exec (.declareRollQueue tag (0x00 :: fields)) s = .next t ∧ Served [] s t f [0x10]))
    ∧ (∀ (o : Byte) (fields : List Byte), fields.length = 6 → o ≠ 0 → o ≠ 1 →
      ∃ t, exec (.declareRollQueue tag (o :: fields)) s = .next t
        ∧ Served [] s t (requestFrame .declareRoll tag (o :: fields)) [0x04])
    ∧ (∀ fields : List Byte, fields.length = 6 →
      let f := requestFrame .declareRoll tag (0x01 :: fields)
      let kind := TagKind.rollHead ⟨be (fields.take 4), be (fields.drop 4), s.activeJobId⟩
      (s.geom.working = none → ∃ t, exec (.declareRollHere tag fields) s = .next t ∧ Served [] s t f [0x0A])
      ∧ (s.geom.working ≠ none → s.tags.length = 128 →
        ∃ t, exec (.declareRollHere tag fields) s = .next t ∧ InsertionDropped kind s.front s t
          ∧ LinkServed s t ∧ Answered f [0x10] t))
    ∧ (∀ (fields : List Byte) (g : GeomRecord), fields.length = 6 → s.geom.working = some g → s.tags.length < 128 →
      (s.web.wmax : Int) < s.front + g.exitPos →
      ∃ t x, exec (.declareRollHere tag fields) s = .next t
        ∧ Served [.track] s t (requestFrame .declareRoll tag (0x01 :: fields)) (0x00 :: beBytes 2 s.newId)
        ∧ findTag s.newId t.tags = some x ∧ x.uStart = s.front
        ∧ x.kind = .rollHead ⟨be (fields.take 4), be (fields.drop 4), s.activeJobId⟩
        ∧ t.track.declarations = s.track.declarations ∧ t.tags.length = s.tags.length + 1)
    ∧ (∀ (body : List Byte) (g : GeomRecord), body.length = 6 → s.geom.working = some g →
      let p := be (body.drop 2)
      let f := requestFrame .insertMarker tag body
      (g.exitPos < p → ∃ t, exec (.insertMarker tag body) s = .next t ∧ Served [] s t f [0x04])
      ∧ (p ≤ g.exitPos → s.tags.length < 128 → (s.web.wmax : Int) < s.front - p + g.exitPos →
        ∃ t x, exec (.insertMarker tag body) s = .next t ∧ Served [.track] s t f (0x00 :: beBytes 2 s.newId)
          ∧ findTag s.newId t.tags = some x ∧ x.kind = .marker (be (body.take 2)) ∧ x.uStart = s.front - p
          ∧ t.tags.length = s.tags.length + 1)
      ∧ (p ≤ g.exitPos → s.tags.length = 128 →
        ∃ t, exec (.insertMarker tag body) s = .next t ∧ InsertionDropped (.marker (be (body.take 2))) (s.front - p) s t
          ∧ LinkServed s t ∧ Answered f [0x10] t))
    ∧ (∀ body : List Byte, body.length = 6 → s.geom.working = none →
      ∃ t, exec (.insertMarker tag body) s = .next t ∧ Served [] s t (requestFrame .insertMarker tag body) [0x0A])

/-- O42. Track Reset (R17, R41, R42, R43, R57, R86, R102, R126): out of HALT it is refused LINE_MOVING; in HALT the track, the
declarations and the open report are emptied, W starts at 0, every hold count is 0, the channels' expectations are carried into the new
coordinates and a bound changeover is PENDING again, its blend BOTH once a station has switched; only spans stand in the track after it.
In a state whose track and stations are in order (`TrackInv`, `StationInv`, which every step keeps) these are the open spans of the
conditions that hold, at the negative u their owners give: print gaps, misregister spans, the spans of zones out of band and the speed
span (R84, R105, R107, R145; `StationReopens`, `OvenReopens`). -/
def Obligations.TrackResetTakesEffect : Prop :=
  ∀ (s : State) (tag : Byte), s.listening = true →
    let f := requestFrame .trackReset tag []
    (s.gov.state ≠ .halt → ∃ t, exec (.trackReset tag []) s = .next t ∧ Served [] s t f [0x07])
    ∧ (s.gov.state = .halt → ∃ t, exec (.trackReset tag []) s = .next t
        ∧ t.web = { s.web with w := 0, wmax := 0, deficit := 0, reverseLimit := false, webLimit := false, lastSeam := none }
        ∧ (∀ x ∈ t.tags, x.kind.isSpan = true) ∧ t.track.declarations = []
        ∧ t.track.evictions = s.track.evictions ∧ t.reports.current = none ∧ t.reports.queue = s.reports.queue
        ∧ (∀ k, (t.station k).hold = 0 ∧ (t.station k).reasons.seam = false ∧ (t.station k).mode = (s.station k).mode)
        ∧ (∀ k, (t.channel k).state = (s.channel k).state ∧ (t.channel k).misses = (s.channel k).misses
            ∧ (t.channel k).wExp = (s.channel k).wExp.map (· - s.front)
            ∧ (t.channel k).wLast = (s.channel k).wLast.map (· - s.front))
        ∧ (s.changeover.state = .bound → t.changeover.state = .pending ∧ t.changeover.boundSeam = none
            ∧ t.changeover.switched = s.changeover.switched)
        ∧ (s.changeover.state = .settling → t.changeover.state = .settling ∧ t.changeover.boundSeam = none
            ∧ t.changeover.blend = .both)
        ∧ (s.changeover.state = .bound →
            (s.changeover.noneSwitched = true → t.changeover.blend = s.changeover.blend)
            ∧ (s.changeover.noneSwitched = false → t.changeover.blend = .both))
        ∧ (s.changeover.state = .none ∨ s.changeover.state = .pending → t.changeover = s.changeover)
        ∧ t.oven.haltTimer = none ∧ t.oven.haltMark = none
        ∧ (TrackInv s → StationInv s → (∀ x ∈ t.tags, x.uEnd = none) ∧ (∀ k, StationReopens k s t) ∧ OvenReopens s t)
        ∧ LinkServed s t ∧ Answered f [0x00] t
        ∧ ChangesOnly [.web, .track, .reports, .channels, .stations, .changeover, .oven, .link, .freeIx] s t)

/-- O43. Fetch Roll Report and Fetch Changes (R56, R174): the oldest report, or up to 16 of the oldest records, leave their queue and are
carried by an OK reply; an empty queue is answered EMPTY.  The bytes of an absent open report in the summary, and the label of an
item that is no MARKER, are the model's choices (log entry 29), and so are the unused bits of a change record's flags (log entry
31) and the code of the byte that says a report is open (log entry 34). -/
def Obligations.FetchesTakeTheOldest : Prop :=
  ∀ (s : State) (tag : Byte), s.listening = true →
    (let f := requestFrame .fetchRollReport tag []
     (s.reports.queue = [] →
       ∃ t, exec (.fetchRollReport tag []) s = .next t ∧ Served [] s t f (0x11 :: reportSummary s.reports))
     ∧ (∀ r rest, s.reports.queue = r :: rest →
       ∃ t, exec (.fetchRollReport tag []) s = .next t ∧ t.reports = { s.reports with queue := rest }
         ∧ Served [.reports] s t f (0x00 :: (reportSummary t.reports ++ r.bytes))))
    ∧ (let f := requestFrame .fetchChanges tag []
       (s.scan.queue = [] →
         ∃ t, exec (.fetchChanges tag []) s = .next t ∧ Served [] s t f [0x11, 0, byte s.markedPoints, 0])
       ∧ (s.scan.queue ≠ [] →
         ∃ t, exec (.fetchChanges tag []) s = .next t ∧ t.scan = { s.scan with queue := s.scan.queue.drop 16 }
           ∧ Served [.scan] s t f (0x00 :: byte (s.scan.queue.drop 16).length :: byte s.markedPoints
               :: byte (s.scan.queue.take 16).length :: (s.scan.queue.take 16).flatMap (·.bytes))))

/-! ### Requests: scanner -/

/-- O44. Arm Group takes the baseline of its group and answers with it (R172).  Bits 6 and 7 of the states byte of a group of six points
are the model's choice (log entry 31). -/
def Obligations.ArmGroupTakesABaseline : Prop :=
  ∀ (s : State) (tag b : Byte), s.listening = true →
    let f := requestFrame .armGroup tag [b]
    (groupOf b.toNat = none → ∃ t, exec (.armGroup tag [b]) s = .next t ∧ Served [] s t f [0x04])
    ∧ (∀ g, groupOf b.toNat = some g → ∃ t, exec (.armGroup tag [b]) s = .next t
        ∧ Served [.scan] s t f [0x00, byte (g.val + 1), byte (groupStates s g)]
        ∧ t.armed g = true ∧ (∀ h, h ≠ g → t.armed h = s.armed h) ∧ t.scan.queue = s.scan.queue
        ∧ t.scan.clock = s.scan.clock
        ∧ (∀ p, groupOfPoint p = g → t.point p = { s.point p with stored := (s.point p).debounced, unreported := false })
        ∧ (∀ p, groupOfPoint p ≠ g → t.point p = s.point p))

/-- O45. R173: Disarm Group refuses a number outside 1 to 20; otherwise the group's stored states take their debounced states, its
flags are cleared and it is disarmed, the queue staying as it is; disarming a group that is not armed leaves its points as
they are. -/
def Obligations.DisarmGroupReleases : Prop :=
  ∀ (s : State) (tag b : Byte), s.listening = true → ScannerInv s →
    let f := requestFrame .disarmGroup tag [b]
    (groupOf b.toNat = none → ∃ t, exec (.disarmGroup tag [b]) s = .next t ∧ Served [] s t f [0x04])
    ∧ (∀ g, groupOf b.toNat = some g → ∃ t, exec (.disarmGroup tag [b]) s = .next t
        ∧ Served [.scan] s t f [0x00]
        ∧ t.armed g = false ∧ (∀ h, h ≠ g → t.armed h = s.armed h) ∧ t.scan.queue = s.scan.queue
        ∧ (∀ p, groupOfPoint p = g → t.point p = { s.point p with stored := (s.point p).debounced, unreported := false })
        ∧ (∀ p, groupOfPoint p ≠ g → t.point p = s.point p)
        ∧ (s.armed g = false → ∀ p, t.point p = s.point p))

/-! ### Requests: link -/

/-- O46. Subscribe replaces the subscription set; Acknowledge Notices clears the kinds named with bit 0, sets those named with bit 1 that
are not pending, and leaves the others (R190, R191).  Bits 20 to 23 of the sets in the replies are the model's choice (log entry 31). -/
def Obligations.SubscribeAndAcknowledge : Prop :=
  ∀ (s : State) (tag : Byte), s.listening = true →
    (∀ mask : List Byte, mask.length = 3 → ∃ t, exec (.subscribe tag mask) s = .next t
      ∧ (∀ n : NoticeNo, t.link.subscribed[n] = (be mask).testBit n.val) ∧ NoticesKept s t
      ∧ Answered (requestFrame .subscribe tag mask)
          (0x00 :: (beBytes 3 (be mask % 1048576) ++ beBytes 3 s.link.pendingMask)) t
      ∧ ChangesOnly [.link] s t)
    ∧ (∀ mask value : List Byte, mask.length = 3 → value.length = 3 → ∃ t, exec (.acknowledgeNotices tag (mask ++ value)) s = .next t
      ∧ (∀ n : NoticeNo,
          ((be mask).testBit n.val = false → (t.notice n).butSent = (s.notice n).butSent)
          ∧ ((be mask).testBit n.val = true → (be value).testBit n.val = false → t.notice n = ⟨false, none, 0, false⟩)
          ∧ ((be mask).testBit n.val = true → (be value).testBit n.val = true →
              ((s.notice n).pending = true → (t.notice n).butSent = (s.notice n).butSent)
              ∧ ((s.notice n).pending = false → (t.notice n).butSent = ⟨true, none, 1, false⟩)))
      ∧ LinkServed s t ∧ Answered (requestFrame .acknowledgeNotices tag (mask ++ value)) (0x00 :: beBytes 3 t.link.pendingMask) t
      ∧ ChangesOnly [.link] s t)

/-- O47. Restart is accepted in HALT and TRIPPED and refused elsewhere (R187); once its reply has been sent it is due, and no further frame
is begun or request taken. -/
def Obligations.RestartTaken : Prop :=
  (∀ (s : State) (tag : Byte), s.listening = true →
    let f := requestFrame .restart tag []
    (s.gov.state = .halt ∨ s.gov.state = .tripped → ∃ t, exec (.restart tag []) s = .next t
      ∧ t.link.restart = .answering ∧ NoticesKept s t ∧ Answered f [0x00] t ∧ ChangesOnly [.link] s t)
    ∧ (s.gov.state ≠ .halt → s.gov.state ≠ .tripped →
      ∃ t, exec (.restart tag []) s = .next t ∧ Served [] s t f [0x07]))
  ∧ ∀ (s : State) (f : Frame), s.powered = true → s.link.restart = .answering → s.link.sending = some (.reply f) →
      ∃ t, exec .frameSent s = .next t ∧ t.link.restart = .due ∧ t.link.sending = none
        ∧ t.link.requestsTaken = s.link.requestsTaken ∧ ChangesOnly [.link] s t
        ∧ exec .noticeFrameSend t = .next t

/-! ### The line -/

/-- O48. The receiver (R179, R180, R181): HUNT passes over every byte but 0xA5; FRAME gathers; a length error, a gap and a bad CRC discard
the frame with their own count; a whole good frame goes to the receive queue as its command, and is lost at a full queue.
(The clauses for a gap and a bad CRC take gathered bytes without 0xA5, so that the rescan opens no frame.  That the byte which
completes a frame or an over-long length leaves it standing until FRAME_RECEIVED or LENGTH_ERROR takes it is the model's
reading, log entry 2.) -/
def Obligations.ReceiverGathersAndJudges : Prop :=
  ∀ s : State, s.powered = true →
    (s.link.receiver = none →
      (∀ b : Byte, b ≠ 0xA5 → exec (.byteReceived b) s = .next s)
      ∧ exec (.byteReceived 0xA5) s = .next (s.putReceiver (some ⟨[], 0⟩)))
    ∧ ∀ g, s.link.receiver = some g →
      (∀ b : Byte, judgeBytes g.bytes = .partly →
        exec (.byteReceived b) s = .next (s.putReceiver (some ⟨g.bytes ++ [b], 0⟩)))
      ∧ (∀ hi lo : Byte, g.bytes = [hi, lo] → 480 < hi.toNat * 256 + lo.toNat → ∃ t, exec .lengthError s = .next t
          ∧ t.link.lengthErrors = satInc s.link.lengthErrors
          ∧ t.link.receiver = (if hi = 0xA5 then some ⟨[lo], 0⟩ else if lo = 0xA5 then some ⟨[], 0⟩ else none)
          ∧ (s.link.state = .ready → Latched (.linkError .length) s t) ∧ t.link.queue = s.link.queue
          ∧ ChangesOnly [.link] s t)
      ∧ (judgeBytes g.bytes = .partly → (∀ b ∈ g.bytes, b ≠ 0xA5) → ∃ t, exec .gapTimeout s = .next t
          ∧ t.link.receiver = none ∧ t.link.gapErrors = satInc s.link.gapErrors ∧ t.link.queue = s.link.queue
          ∧ (s.link.state = .ready → Latched (.linkError .gap) s t) ∧ ChangesOnly [.link] s t)
      ∧ (∀ f, judgeBytes g.bytes = .whole f false → (∀ b ∈ g.bytes, b ≠ 0xA5) → ∃ t, exec .frameReceived s = .next t
          ∧ t.link.receiver = none ∧ t.link.crcErrors = satInc s.link.crcErrors ∧ t.link.queue = s.link.queue
          ∧ (s.link.state = .ready → Latched (.linkError .crc) s t) ∧ ChangesOnly [.link] s t)
      ∧ (∀ f, judgeBytes g.bytes = .whole f true →
          exec .frameReceived s = exec (frameCommand f) (s.putReceiver none)
          ∧ (s.link.queue ≠ [] → s.link.queue.length < 4 →
              exec .frameReceived s = .next (s.putLink { s.link with receiver := none, queue := s.link.queue ++ [f] }))
          ∧ (s.link.queue.length = 4 → ∃ t, exec .frameReceived s = .next t
              ∧ t.link.overruns = satInc s.link.overruns ∧ t.link.queue = s.link.queue ∧ t.link.receiver = none
              ∧ (s.link.state = .ready → Latched (.linkOverrun f.kind f.tag) s t) ∧ ChangesOnly [.link] s t))

/-- O49. The transmitter (R182, R184, R189): free, it begins the owed notice with the lowest number, whose sent flag is set and which is
counted; with no notice owed a sent notice gives way to the waiting reply; a sent reply takes its request from the queue,
and the next request is taken.  When the transmitter chooses is the model's reading (log entry 15), and so is that FRAME_SENT with
an idle transmitter leaves the state as it is (log entry 14).  What the bytes of a
notice's body carry beyond the manual's layout rests on log entries 16, 31 and 34. -/
def Obligations.TransmitterSends : Prop :=
  ∀ s : State, s.powered = true →
    (∀ n : NoticeNo, s.link.sending = none → s.link.restart ≠ .due → s.link.owes n = true →
      (∀ m : NoticeNo, m.val < n.val → s.link.owes m = false) →
      ∃ t, exec .noticeFrameSend s = .next t
        ∧ t.link.sending = some (.notice n ⟨byte (0x40 + n.val), 0, (s.notice n).body⟩)
        ∧ t.notice n = { s.notice n with sent := true } ∧ (∀ m, m ≠ n → t.notice m = s.notice m)
        ∧ t.link.noticesSent = satInc s.link.noticesSent ∧ t.link.queue = s.link.queue
        ∧ t.link.waiting = s.link.waiting ∧ ChangesOnly [.link] s t)
    ∧ (s.link.sending ≠ none ∨ (∀ n, s.link.owes n = false) → exec .noticeFrameSend s = .next s)
    ∧ (s.link.sending = none → exec .frameSent s = .next s)
    ∧ (∀ n f r, s.link.sending = some (.notice n f) → s.link.restart ≠ .due → s.link.waiting = some r →
        (∀ m, s.link.owes m = false) →
        exec .frameSent s = .next (s.putLink { s.link with sending := some (.reply r), waiting := none }))
    ∧ (∀ f q, s.link.sending = some (.reply f) → s.link.restart = .none → s.link.waiting = none → s.link.queue = [q] →
        (∀ m, s.link.owes m = false) →
        exec .frameSent s = .next (s.putLink { s.link with sending := none, queue := [] }))
    ∧ (∀ f q r rest, s.link.sending = some (.reply f) → s.link.restart = .none → s.link.queue = q :: r :: rest →
        ∃ t, exec .frameSent s = .next t ∧ t.link.queue = r :: rest
          ∧ t.link.requestsTaken = satInc s.link.requestsTaken)

/-! ### Encoding -/

/-- O50. Commands and frames agree: the command that a frame spells stands for that frame again, and a well-formed request command is the
one that its frame spells (section 11.1; that two rows share a kind is settled by their first body byte, log entry 1). -/
def Obligations.CommandsAndFramesAgree : Prop :=
  (∀ f : Frame, commandFrame (frameCommand f) = some f)
  ∧ ∀ (i : Instr) (f : Frame), i.wellFormed = true → commandFrame i = some f → frameCommand f = i

/-- O51. A frame sent on the line arrives as it was sent: its bytes, taken one by one by a receiver in HUNT after the start byte, are judged
to be that frame, whole and good, and not before the last of them (R178, R179).  That the complete frame stands in the receiver until
FRAME_RECEIVED takes it is the model's reading (log entry 2). -/
def Obligations.LineFramesArriveWhole : Prop :=
  ∀ f : Frame, f.body.length ≤ 480 →
    judgeBytes (lineBytes f) = .whole f true
    ∧ (∀ n, n < (lineBytes f).length → judgeBytes ((lineBytes f).take n) = .partly)
    ∧ ∀ s : State, s.powered = true → s.link.receiver = none →
        ∃ t, (0xA5 :: (lineBytes f)).foldl (fun (o : Host.Outcome State Fault Refusal) b =>
            match o with
            | .next s => exec (.byteReceived b) s
            | o => o) (.next s) = .next t
          ∧ t = s.putReceiver (some ⟨lineBytes f, 0⟩) ∧ exec .frameReceived t = exec (frameCommand f) s

/-! ### Invariants -/

/-- O52. Every invariant holds after power-on. -/
def Obligations.InvariantsHoldAtReset : Prop :=
  GeometryInv State.reset ∧ WebInv State.reset ∧ TrackInv State.reset ∧ QueueInv State.reset ∧ GovernorInv State.reset
    ∧ StationInv State.reset ∧ ChannelInv State.reset ∧ ScannerInv State.reset ∧ NoticeInv State.reset
    ∧ ReplyInv State.reset ∧ SlotInv State.reset

/-- O53. Every step keeps the working geometry checked and the gate table its own (R4, R6, R10), and W, Wmax, the deficit and the
reverse-limit flag consistent (R11, R13, R14). -/
def Obligations.StepsKeepGeometryAndWeb : Prop :=
  ∀ s t : State, GeometryInv s → WebInv s → step s = .next t → GeometryInv t ∧ WebInv t

/-- O54. Every step keeps the governor's record consistent (R147, R150): demand 0 in HALT and TRIPPED, a cause set exactly under a
trip, the jog fields in JOG alone, the speeds within 20,000. -/
def Obligations.StepsKeepTheGovernor : Prop :=
  ∀ s t : State, GeometryInv s → GovernorInv s → step s = .next t → GovernorInv t

/-- O55. Every step keeps the tag track in order (R19, R20, R23): at most 128 tags, sorted by u_start, each with its own id from 1 to
65,535, and at most 2 declarations. -/
def Obligations.StepsKeepTheTrackInOrder : Prop :=
  ∀ s t : State, TrackInv s → step s = .next t → TrackInv t

/-- O56. Every step keeps every station's record consistent (R91 to R94, R100): DOWN and LOWERING only with an empty set, UP only with a
reason, SEAM exactly under a hold, FAULT exactly in STUCK, each timer and the lower output with their states. -/
def Obligations.StepsKeepTheStations : Prop :=
  ∀ s t : State, StationInv s → step s = .next t → StationInv t

/-- O57. Every step keeps every channel's record consistent (R59, R67, R68, R75, R76). -/
def Obligations.StepsKeepTheChannels : Prop :=
  ∀ s t : State, ChannelInv s → step s = .next t → ChannelInv t

/-- O58. Every step keeps at most one slot ACTIVE and at most one STAGED, with the changeover record naming them (R113, section 6.5). -/
def Obligations.StepsKeepTheSlots : Prop :=
  ∀ s t : State, SlotInv s → step s = .next t → SlotInv t

/-- O59. Every step keeps the queues and item lists within their places (R53, R55, R171, R181), the notices' counts with their pending
flags (R188, R189), and the stored states of unmarked points at their debounced states (R168, R169). -/
def Obligations.StepsKeepQueuesNoticesAndPoints : Prop :=
  ∀ s t : State, step s = .next t →
    (QueueInv s → QueueInv t) ∧ (NoticeInv s → NoticeInv t) ∧ (ScannerInv s → ScannerInv t)

/-- O60. Every step keeps one reply in the making exactly while a request stands at the head of the receive queue and no Restart is due
(R182, R187). -/
def Obligations.StepsKeepOneReply : Prop :=
  ∀ s t : State, ReplyInv s → step s = .next t → ReplyInv t
end

