-- ==== Sys2Proof/Laws/State.lean ====
section
/-! SUPPORT. One lemma per field per named update of State, and the reads of an indexed record after an update of one: no
later proof unfolds a record update. -/
namespace Sys2Proof.Machine

/-! ### Pending -/

@[simp] theorem State.putPending_pending (s : State) (x : (List Instr)) : (s.putPending x).pending = x := rfl
@[simp] theorem State.putPending_powered (s : State) (x : (List Instr)) : (s.putPending x).powered = s.powered := rfl
@[simp] theorem State.putPending_geom (s : State) (x : (List Instr)) : (s.putPending x).geom = s.geom := rfl
@[simp] theorem State.putPending_web (s : State) (x : (List Instr)) : (s.putPending x).web = s.web := rfl
@[simp] theorem State.putPending_track (s : State) (x : (List Instr)) : (s.putPending x).track = s.track := rfl
@[simp] theorem State.putPending_reports (s : State) (x : (List Instr)) : (s.putPending x).reports = s.reports := rfl
@[simp] theorem State.putPending_channels (s : State) (x : (List Instr)) : (s.putPending x).channels = s.channels := rfl
@[simp] theorem State.putPending_stations (s : State) (x : (List Instr)) : (s.putPending x).stations = s.stations := rfl
@[simp] theorem State.putPending_slots (s : State) (x : (List Instr)) : (s.putPending x).slots = s.slots := rfl
@[simp] theorem State.putPending_changeover (s : State) (x : (List Instr)) : (s.putPending x).changeover = s.changeover := rfl
@[simp] theorem State.putPending_oven (s : State) (x : (List Instr)) : (s.putPending x).oven = s.oven := rfl
@[simp] theorem State.putPending_gov (s : State) (x : (List Instr)) : (s.putPending x).gov = s.gov := rfl
@[simp] theorem State.putPending_scan (s : State) (x : (List Instr)) : (s.putPending x).scan = s.scan := rfl
@[simp] theorem State.putPending_link (s : State) (x : (List Instr)) : (s.putPending x).link = s.link := rfl
@[simp] theorem State.putPending_freeIx (s : State) (x : (List Instr)) : (s.putPending x).freeIx = s.freeIx := rfl

/-! ### Powered -/

@[simp] theorem State.putPowered_pending (s : State) (x : Bool) : (s.putPowered x).pending = s.pending := rfl
@[simp] theorem State.putPowered_powered (s : State) (x : Bool) : (s.putPowered x).powered = x := rfl
@[simp] theorem State.putPowered_geom (s : State) (x : Bool) : (s.putPowered x).geom = s.geom := rfl
@[simp] theorem State.putPowered_web (s : State) (x : Bool) : (s.putPowered x).web = s.web := rfl
@[simp] theorem State.putPowered_track (s : State) (x : Bool) : (s.putPowered x).track = s.track := rfl
@[simp] theorem State.putPowered_reports (s : State) (x : Bool) : (s.putPowered x).reports = s.reports := rfl
@[simp] theorem State.putPowered_channels (s : State) (x : Bool) : (s.putPowered x).channels = s.channels := rfl
@[simp] theorem State.putPowered_stations (s : State) (x : Bool) : (s.putPowered x).stations = s.stations := rfl
@[simp] theorem State.putPowered_slots (s : State) (x : Bool) : (s.putPowered x).slots = s.slots := rfl
@[simp] theorem State.putPowered_changeover (s : State) (x : Bool) : (s.putPowered x).changeover = s.changeover := rfl
@[simp] theorem State.putPowered_oven (s : State) (x : Bool) : (s.putPowered x).oven = s.oven := rfl
@[simp] theorem State.putPowered_gov (s : State) (x : Bool) : (s.putPowered x).gov = s.gov := rfl
@[simp] theorem State.putPowered_scan (s : State) (x : Bool) : (s.putPowered x).scan = s.scan := rfl
@[simp] theorem State.putPowered_link (s : State) (x : Bool) : (s.putPowered x).link = s.link := rfl
@[simp] theorem State.putPowered_freeIx (s : State) (x : Bool) : (s.putPowered x).freeIx = s.freeIx := rfl

/-! ### Geom -/

@[simp] theorem State.putGeom_pending (s : State) (x : GeometryStore) : (s.putGeom x).pending = s.pending := rfl
@[simp] theorem State.putGeom_powered (s : State) (x : GeometryStore) : (s.putGeom x).powered = s.powered := rfl
@[simp] theorem State.putGeom_geom (s : State) (x : GeometryStore) : (s.putGeom x).geom = x := rfl
@[simp] theorem State.putGeom_web (s : State) (x : GeometryStore) : (s.putGeom x).web = s.web := rfl
@[simp] theorem State.putGeom_track (s : State) (x : GeometryStore) : (s.putGeom x).track = s.track := rfl
@[simp] theorem State.putGeom_reports (s : State) (x : GeometryStore) : (s.putGeom x).reports = s.reports := rfl
@[simp] theorem State.putGeom_channels (s : State) (x : GeometryStore) : (s.putGeom x).channels = s.channels := rfl
@[simp] theorem State.putGeom_stations (s : State) (x : GeometryStore) : (s.putGeom x).stations = s.stations := rfl
@[simp] theorem State.putGeom_slots (s : State) (x : GeometryStore) : (s.putGeom x).slots = s.slots := rfl
@[simp] theorem State.putGeom_changeover (s : State) (x : GeometryStore) : (s.putGeom x).changeover = s.changeover := rfl
@[simp] theorem State.putGeom_oven (s : State) (x : GeometryStore) : (s.putGeom x).oven = s.oven := rfl
@[simp] theorem State.putGeom_gov (s : State) (x : GeometryStore) : (s.putGeom x).gov = s.gov := rfl
@[simp] theorem State.putGeom_scan (s : State) (x : GeometryStore) : (s.putGeom x).scan = s.scan := rfl
@[simp] theorem State.putGeom_link (s : State) (x : GeometryStore) : (s.putGeom x).link = s.link := rfl
@[simp] theorem State.putGeom_freeIx (s : State) (x : GeometryStore) : (s.putGeom x).freeIx = s.freeIx := rfl

/-! ### Web -/

@[simp] theorem State.putWeb_pending (s : State) (x : WebMeasure) : (s.putWeb x).pending = s.pending := rfl
@[simp] theorem State.putWeb_powered (s : State) (x : WebMeasure) : (s.putWeb x).powered = s.powered := rfl
@[simp] theorem State.putWeb_geom (s : State) (x : WebMeasure) : (s.putWeb x).geom = s.geom := rfl
@[simp] theorem State.putWeb_web (s : State) (x : WebMeasure) : (s.putWeb x).web = x := rfl
@[simp] theorem State.putWeb_track (s : State) (x : WebMeasure) : (s.putWeb x).track = s.track := rfl
@[simp] theorem State.putWeb_reports (s : State) (x : WebMeasure) : (s.putWeb x).reports = s.reports := rfl
@[simp] theorem State.putWeb_channels (s : State) (x : WebMeasure) : (s.putWeb x).channels = s.channels := rfl
@[simp] theorem State.putWeb_stations (s : State) (x : WebMeasure) : (s.putWeb x).stations = s.stations := rfl
@[simp] theorem State.putWeb_slots (s : State) (x : WebMeasure) : (s.putWeb x).slots = s.slots := rfl
@[simp] theorem State.putWeb_changeover (s : State) (x : WebMeasure) : (s.putWeb x).changeover = s.changeover := rfl
@[simp] theorem State.putWeb_oven (s : State) (x : WebMeasure) : (s.putWeb x).oven = s.oven := rfl
@[simp] theorem State.putWeb_gov (s : State) (x : WebMeasure) : (s.putWeb x).gov = s.gov := rfl
@[simp] theorem State.putWeb_scan (s : State) (x : WebMeasure) : (s.putWeb x).scan = s.scan := rfl
@[simp] theorem State.putWeb_link (s : State) (x : WebMeasure) : (s.putWeb x).link = s.link := rfl
@[simp] theorem State.putWeb_freeIx (s : State) (x : WebMeasure) : (s.putWeb x).freeIx = s.freeIx := rfl

/-! ### Track -/

@[simp] theorem State.putTrack_pending (s : State) (x : TagTrack) : (s.putTrack x).pending = s.pending := rfl
@[simp] theorem State.putTrack_powered (s : State) (x : TagTrack) : (s.putTrack x).powered = s.powered := rfl
@[simp] theorem State.putTrack_geom (s : State) (x : TagTrack) : (s.putTrack x).geom = s.geom := rfl
@[simp] theorem State.putTrack_web (s : State) (x : TagTrack) : (s.putTrack x).web = s.web := rfl
@[simp] theorem State.putTrack_track (s : State) (x : TagTrack) : (s.putTrack x).track = x := rfl
@[simp] theorem State.putTrack_reports (s : State) (x : TagTrack) : (s.putTrack x).reports = s.reports := rfl
@[simp] theorem State.putTrack_channels (s : State) (x : TagTrack) : (s.putTrack x).channels = s.channels := rfl
@[simp] theorem State.putTrack_stations (s : State) (x : TagTrack) : (s.putTrack x).stations = s.stations := rfl
@[simp] theorem State.putTrack_slots (s : State) (x : TagTrack) : (s.putTrack x).slots = s.slots := rfl
@[simp] theorem State.putTrack_changeover (s : State) (x : TagTrack) : (s.putTrack x).changeover = s.changeover := rfl
@[simp] theorem State.putTrack_oven (s : State) (x : TagTrack) : (s.putTrack x).oven = s.oven := rfl
@[simp] theorem State.putTrack_gov (s : State) (x : TagTrack) : (s.putTrack x).gov = s.gov := rfl
@[simp] theorem State.putTrack_scan (s : State) (x : TagTrack) : (s.putTrack x).scan = s.scan := rfl
@[simp] theorem State.putTrack_link (s : State) (x : TagTrack) : (s.putTrack x).link = s.link := rfl
@[simp] theorem State.putTrack_freeIx (s : State) (x : TagTrack) : (s.putTrack x).freeIx = s.freeIx := rfl

/-! ### Reports -/

@[simp] theorem State.putReports_pending (s : State) (x : ReportBlock) : (s.putReports x).pending = s.pending := rfl
@[simp] theorem State.putReports_powered (s : State) (x : ReportBlock) : (s.putReports x).powered = s.powered := rfl
@[simp] theorem State.putReports_geom (s : State) (x : ReportBlock) : (s.putReports x).geom = s.geom := rfl
@[simp] theorem State.putReports_web (s : State) (x : ReportBlock) : (s.putReports x).web = s.web := rfl
@[simp] theorem State.putReports_track (s : State) (x : ReportBlock) : (s.putReports x).track = s.track := rfl
@[simp] theorem State.putReports_reports (s : State) (x : ReportBlock) : (s.putReports x).reports = x := rfl
@[simp] theorem State.putReports_channels (s : State) (x : ReportBlock) : (s.putReports x).channels = s.channels := rfl
@[simp] theorem State.putReports_stations (s : State) (x : ReportBlock) : (s.putReports x).stations = s.stations := rfl
@[simp] theorem State.putReports_slots (s : State) (x : ReportBlock) : (s.putReports x).slots = s.slots := rfl
@[simp] theorem State.putReports_changeover (s : State) (x : ReportBlock) : (s.putReports x).changeover = s.changeover := rfl
@[simp] theorem State.putReports_oven (s : State) (x : ReportBlock) : (s.putReports x).oven = s.oven := rfl
@[simp] theorem State.putReports_gov (s : State) (x : ReportBlock) : (s.putReports x).gov = s.gov := rfl
@[simp] theorem State.putReports_scan (s : State) (x : ReportBlock) : (s.putReports x).scan = s.scan := rfl
@[simp] theorem State.putReports_link (s : State) (x : ReportBlock) : (s.putReports x).link = s.link := rfl
@[simp] theorem State.putReports_freeIx (s : State) (x : ReportBlock) : (s.putReports x).freeIx = s.freeIx := rfl

/-! ### Channels -/

@[simp] theorem State.putChannels_pending (s : State) (x : (Vector Channel 16)) : (s.putChannels x).pending = s.pending := rfl
@[simp] theorem State.putChannels_powered (s : State) (x : (Vector Channel 16)) : (s.putChannels x).powered = s.powered := rfl
@[simp] theorem State.putChannels_geom (s : State) (x : (Vector Channel 16)) : (s.putChannels x).geom = s.geom := rfl
@[simp] theorem State.putChannels_web (s : State) (x : (Vector Channel 16)) : (s.putChannels x).web = s.web := rfl
@[simp] theorem State.putChannels_track (s : State) (x : (Vector Channel 16)) : (s.putChannels x).track = s.track := rfl
@[simp] theorem State.putChannels_reports (s : State) (x : (Vector Channel 16)) : (s.putChannels x).reports = s.reports := rfl
@[simp] theorem State.putChannels_channels (s : State) (x : (Vector Channel 16)) : (s.putChannels x).channels = x := rfl
@[simp] theorem State.putChannels_stations (s : State) (x : (Vector Channel 16)) : (s.putChannels x).stations = s.stations := rfl
@[simp] theorem State.putChannels_slots (s : State) (x : (Vector Channel 16)) : (s.putChannels x).slots = s.slots := rfl
@[simp] theorem State.putChannels_changeover (s : State) (x : (Vector Channel 16)) : (s.putChannels x).changeover = s.changeover := rfl
@[simp] theorem State.putChannels_oven (s : State) (x : (Vector Channel 16)) : (s.putChannels x).oven = s.oven := rfl
@[simp] theorem State.putChannels_gov (s : State) (x : (Vector Channel 16)) : (s.putChannels x).gov = s.gov := rfl
@[simp] theorem State.putChannels_scan (s : State) (x : (Vector Channel 16)) : (s.putChannels x).scan = s.scan := rfl
@[simp] theorem State.putChannels_link (s : State) (x : (Vector Channel 16)) : (s.putChannels x).link = s.link := rfl
@[simp] theorem State.putChannels_freeIx (s : State) (x : (Vector Channel 16)) : (s.putChannels x).freeIx = s.freeIx := rfl

/-! ### Stations -/

@[simp] theorem State.putStations_pending (s : State) (x : (Vector Station 16)) : (s.putStations x).pending = s.pending := rfl
@[simp] theorem State.putStations_powered (s : State) (x : (Vector Station 16)) : (s.putStations x).powered = s.powered := rfl
@[simp] theorem State.putStations_geom (s : State) (x : (Vector Station 16)) : (s.putStations x).geom = s.geom := rfl
@[simp] theorem State.putStations_web (s : State) (x : (Vector Station 16)) : (s.putStations x).web = s.web := rfl
@[simp] theorem State.putStations_track (s : State) (x : (Vector Station 16)) : (s.putStations x).track = s.track := rfl
@[simp] theorem State.putStations_reports (s : State) (x : (Vector Station 16)) : (s.putStations x).reports = s.reports := rfl
@[simp] theorem State.putStations_channels (s : State) (x : (Vector Station 16)) : (s.putStations x).channels = s.channels := rfl
@[simp] theorem State.putStations_stations (s : State) (x : (Vector Station 16)) : (s.putStations x).stations = x := rfl
@[simp] theorem State.putStations_slots (s : State) (x : (Vector Station 16)) : (s.putStations x).slots = s.slots := rfl
@[simp] theorem State.putStations_changeover (s : State) (x : (Vector Station 16)) : (s.putStations x).changeover = s.changeover := rfl
@[simp] theorem State.putStations_oven (s : State) (x : (Vector Station 16)) : (s.putStations x).oven = s.oven := rfl
@[simp] theorem State.putStations_gov (s : State) (x : (Vector Station 16)) : (s.putStations x).gov = s.gov := rfl
@[simp] theorem State.putStations_scan (s : State) (x : (Vector Station 16)) : (s.putStations x).scan = s.scan := rfl
@[simp] theorem State.putStations_link (s : State) (x : (Vector Station 16)) : (s.putStations x).link = s.link := rfl
@[simp] theorem State.putStations_freeIx (s : State) (x : (Vector Station 16)) : (s.putStations x).freeIx = s.freeIx := rfl

/-! ### Slots -/

@[simp] theorem State.putSlots_pending (s : State) (x : (Vector Slot 4)) : (s.putSlots x).pending = s.pending := rfl
@[simp] theorem State.putSlots_powered (s : State) (x : (Vector Slot 4)) : (s.putSlots x).powered = s.powered := rfl
@[simp] theorem State.putSlots_geom (s : State) (x : (Vector Slot 4)) : (s.putSlots x).geom = s.geom := rfl
@[simp] theorem State.putSlots_web (s : State) (x : (Vector Slot 4)) : (s.putSlots x).web = s.web := rfl
@[simp] theorem State.putSlots_track (s : State) (x : (Vector Slot 4)) : (s.putSlots x).track = s.track := rfl
@[simp] theorem State.putSlots_reports (s : State) (x : (Vector Slot 4)) : (s.putSlots x).reports = s.reports := rfl
@[simp] theorem State.putSlots_channels (s : State) (x : (Vector Slot 4)) : (s.putSlots x).channels = s.channels := rfl
@[simp] theorem State.putSlots_stations (s : State) (x : (Vector Slot 4)) : (s.putSlots x).stations = s.stations := rfl
@[simp] theorem State.putSlots_slots (s : State) (x : (Vector Slot 4)) : (s.putSlots x).slots = x := rfl
@[simp] theorem State.putSlots_changeover (s : State) (x : (Vector Slot 4)) : (s.putSlots x).changeover = s.changeover := rfl
@[simp] theorem State.putSlots_oven (s : State) (x : (Vector Slot 4)) : (s.putSlots x).oven = s.oven := rfl
@[simp] theorem State.putSlots_gov (s : State) (x : (Vector Slot 4)) : (s.putSlots x).gov = s.gov := rfl
@[simp] theorem State.putSlots_scan (s : State) (x : (Vector Slot 4)) : (s.putSlots x).scan = s.scan := rfl
@[simp] theorem State.putSlots_link (s : State) (x : (Vector Slot 4)) : (s.putSlots x).link = s.link := rfl
@[simp] theorem State.putSlots_freeIx (s : State) (x : (Vector Slot 4)) : (s.putSlots x).freeIx = s.freeIx := rfl

/-! ### Changeover -/

@[simp] theorem State.putChangeover_pending (s : State) (x : Changeover) : (s.putChangeover x).pending = s.pending := rfl
@[simp] theorem State.putChangeover_powered (s : State) (x : Changeover) : (s.putChangeover x).powered = s.powered := rfl
@[simp] theorem State.putChangeover_geom (s : State) (x : Changeover) : (s.putChangeover x).geom = s.geom := rfl
@[simp] theorem State.putChangeover_web (s : State) (x : Changeover) : (s.putChangeover x).web = s.web := rfl
@[simp] theorem State.putChangeover_track (s : State) (x : Changeover) : (s.putChangeover x).track = s.track := rfl
@[simp] theorem State.putChangeover_reports (s : State) (x : Changeover) : (s.putChangeover x).reports = s.reports := rfl
@[simp] theorem State.putChangeover_channels (s : State) (x : Changeover) : (s.putChangeover x).channels = s.channels := rfl
@[simp] theorem State.putChangeover_stations (s : State) (x : Changeover) : (s.putChangeover x).stations = s.stations := rfl
@[simp] theorem State.putChangeover_slots (s : State) (x : Changeover) : (s.putChangeover x).slots = s.slots := rfl
@[simp] theorem State.putChangeover_changeover (s : State) (x : Changeover) : (s.putChangeover x).changeover = x := rfl
@[simp] theorem State.putChangeover_oven (s : State) (x : Changeover) : (s.putChangeover x).oven = s.oven := rfl
@[simp] theorem State.putChangeover_gov (s : State) (x : Changeover) : (s.putChangeover x).gov = s.gov := rfl
@[simp] theorem State.putChangeover_scan (s : State) (x : Changeover) : (s.putChangeover x).scan = s.scan := rfl
@[simp] theorem State.putChangeover_link (s : State) (x : Changeover) : (s.putChangeover x).link = s.link := rfl
@[simp] theorem State.putChangeover_freeIx (s : State) (x : Changeover) : (s.putChangeover x).freeIx = s.freeIx := rfl

/-! ### Oven -/

@[simp] theorem State.putOven_pending (s : State) (x : Oven) : (s.putOven x).pending = s.pending := rfl
@[simp] theorem State.putOven_powered (s : State) (x : Oven) : (s.putOven x).powered = s.powered := rfl
@[simp] theorem State.putOven_geom (s : State) (x : Oven) : (s.putOven x).geom = s.geom := rfl
@[simp] theorem State.putOven_web (s : State) (x : Oven) : (s.putOven x).web = s.web := rfl
@[simp] theorem State.putOven_track (s : State) (x : Oven) : (s.putOven x).track = s.track := rfl
@[simp] theorem State.putOven_reports (s : State) (x : Oven) : (s.putOven x).reports = s.reports := rfl
@[simp] theorem State.putOven_channels (s : State) (x : Oven) : (s.putOven x).channels = s.channels := rfl
@[simp] theorem State.putOven_stations (s : State) (x : Oven) : (s.putOven x).stations = s.stations := rfl
@[simp] theorem State.putOven_slots (s : State) (x : Oven) : (s.putOven x).slots = s.slots := rfl
@[simp] theorem State.putOven_changeover (s : State) (x : Oven) : (s.putOven x).changeover = s.changeover := rfl
@[simp] theorem State.putOven_oven (s : State) (x : Oven) : (s.putOven x).oven = x := rfl
@[simp] theorem State.putOven_gov (s : State) (x : Oven) : (s.putOven x).gov = s.gov := rfl
@[simp] theorem State.putOven_scan (s : State) (x : Oven) : (s.putOven x).scan = s.scan := rfl
@[simp] theorem State.putOven_link (s : State) (x : Oven) : (s.putOven x).link = s.link := rfl
@[simp] theorem State.putOven_freeIx (s : State) (x : Oven) : (s.putOven x).freeIx = s.freeIx := rfl

/-! ### Gov -/

@[simp] theorem State.putGov_pending (s : State) (x : Governor) : (s.putGov x).pending = s.pending := rfl
@[simp] theorem State.putGov_powered (s : State) (x : Governor) : (s.putGov x).powered = s.powered := rfl
@[simp] theorem State.putGov_geom (s : State) (x : Governor) : (s.putGov x).geom = s.geom := rfl
@[simp] theorem State.putGov_web (s : State) (x : Governor) : (s.putGov x).web = s.web := rfl
@[simp] theorem State.putGov_track (s : State) (x : Governor) : (s.putGov x).track = s.track := rfl
@[simp] theorem State.putGov_reports (s : State) (x : Governor) : (s.putGov x).reports = s.reports := rfl
@[simp] theorem State.putGov_channels (s : State) (x : Governor) : (s.putGov x).channels = s.channels := rfl
@[simp] theorem State.putGov_stations (s : State) (x : Governor) : (s.putGov x).stations = s.stations := rfl
@[simp] theorem State.putGov_slots (s : State) (x : Governor) : (s.putGov x).slots = s.slots := rfl
@[simp] theorem State.putGov_changeover (s : State) (x : Governor) : (s.putGov x).changeover = s.changeover := rfl
@[simp] theorem State.putGov_oven (s : State) (x : Governor) : (s.putGov x).oven = s.oven := rfl
@[simp] theorem State.putGov_gov (s : State) (x : Governor) : (s.putGov x).gov = x := rfl
@[simp] theorem State.putGov_scan (s : State) (x : Governor) : (s.putGov x).scan = s.scan := rfl
@[simp] theorem State.putGov_link (s : State) (x : Governor) : (s.putGov x).link = s.link := rfl
@[simp] theorem State.putGov_freeIx (s : State) (x : Governor) : (s.putGov x).freeIx = s.freeIx := rfl

/-! ### Scan -/

@[simp] theorem State.putScan_pending (s : State) (x : Scanner) : (s.putScan x).pending = s.pending := rfl
@[simp] theorem State.putScan_powered (s : State) (x : Scanner) : (s.putScan x).powered = s.powered := rfl
@[simp] theorem State.putScan_geom (s : State) (x : Scanner) : (s.putScan x).geom = s.geom := rfl
@[simp] theorem State.putScan_web (s : State) (x : Scanner) : (s.putScan x).web = s.web := rfl
@[simp] theorem State.putScan_track (s : State) (x : Scanner) : (s.putScan x).track = s.track := rfl
@[simp] theorem State.putScan_reports (s : State) (x : Scanner) : (s.putScan x).reports = s.reports := rfl
@[simp] theorem State.putScan_channels (s : State) (x : Scanner) : (s.putScan x).channels = s.channels := rfl
@[simp] theorem State.putScan_stations (s : State) (x : Scanner) : (s.putScan x).stations = s.stations := rfl
@[simp] theorem State.putScan_slots (s : State) (x : Scanner) : (s.putScan x).slots = s.slots := rfl
@[simp] theorem State.putScan_changeover (s : State) (x : Scanner) : (s.putScan x).changeover = s.changeover := rfl
@[simp] theorem State.putScan_oven (s : State) (x : Scanner) : (s.putScan x).oven = s.oven := rfl
@[simp] theorem State.putScan_gov (s : State) (x : Scanner) : (s.putScan x).gov = s.gov := rfl
@[simp] theorem State.putScan_scan (s : State) (x : Scanner) : (s.putScan x).scan = x := rfl
@[simp] theorem State.putScan_link (s : State) (x : Scanner) : (s.putScan x).link = s.link := rfl
@[simp] theorem State.putScan_freeIx (s : State) (x : Scanner) : (s.putScan x).freeIx = s.freeIx := rfl

/-! ### Link -/

@[simp] theorem State.putLink_pending (s : State) (x : Link) : (s.putLink x).pending = s.pending := rfl
@[simp] theorem State.putLink_powered (s : State) (x : Link) : (s.putLink x).powered = s.powered := rfl
@[simp] theorem State.putLink_geom (s : State) (x : Link) : (s.putLink x).geom = s.geom := rfl
@[simp] theorem State.putLink_web (s : State) (x : Link) : (s.putLink x).web = s.web := rfl
@[simp] theorem State.putLink_track (s : State) (x : Link) : (s.putLink x).track = s.track := rfl
@[simp] theorem State.putLink_reports (s : State) (x : Link) : (s.putLink x).reports = s.reports := rfl
@[simp] theorem State.putLink_channels (s : State) (x : Link) : (s.putLink x).channels = s.channels := rfl
@[simp] theorem State.putLink_stations (s : State) (x : Link) : (s.putLink x).stations = s.stations := rfl
@[simp] theorem State.putLink_slots (s : State) (x : Link) : (s.putLink x).slots = s.slots := rfl
@[simp] theorem State.putLink_changeover (s : State) (x : Link) : (s.putLink x).changeover = s.changeover := rfl
@[simp] theorem State.putLink_oven (s : State) (x : Link) : (s.putLink x).oven = s.oven := rfl
@[simp] theorem State.putLink_gov (s : State) (x : Link) : (s.putLink x).gov = s.gov := rfl
@[simp] theorem State.putLink_scan (s : State) (x : Link) : (s.putLink x).scan = s.scan := rfl
@[simp] theorem State.putLink_link (s : State) (x : Link) : (s.putLink x).link = x := rfl
@[simp] theorem State.putLink_freeIx (s : State) (x : Link) : (s.putLink x).freeIx = s.freeIx := rfl

/-! ### FreeIx -/

@[simp] theorem State.putFreeIx_pending (s : State) (x : Nat) : (s.putFreeIx x).pending = s.pending := rfl
@[simp] theorem State.putFreeIx_powered (s : State) (x : Nat) : (s.putFreeIx x).powered = s.powered := rfl
@[simp] theorem State.putFreeIx_geom (s : State) (x : Nat) : (s.putFreeIx x).geom = s.geom := rfl
@[simp] theorem State.putFreeIx_web (s : State) (x : Nat) : (s.putFreeIx x).web = s.web := rfl
@[simp] theorem State.putFreeIx_track (s : State) (x : Nat) : (s.putFreeIx x).track = s.track := rfl
@[simp] theorem State.putFreeIx_reports (s : State) (x : Nat) : (s.putFreeIx x).reports = s.reports := rfl
@[simp] theorem State.putFreeIx_channels (s : State) (x : Nat) : (s.putFreeIx x).channels = s.channels := rfl
@[simp] theorem State.putFreeIx_stations (s : State) (x : Nat) : (s.putFreeIx x).stations = s.stations := rfl
@[simp] theorem State.putFreeIx_slots (s : State) (x : Nat) : (s.putFreeIx x).slots = s.slots := rfl
@[simp] theorem State.putFreeIx_changeover (s : State) (x : Nat) : (s.putFreeIx x).changeover = s.changeover := rfl
@[simp] theorem State.putFreeIx_oven (s : State) (x : Nat) : (s.putFreeIx x).oven = s.oven := rfl
@[simp] theorem State.putFreeIx_gov (s : State) (x : Nat) : (s.putFreeIx x).gov = s.gov := rfl
@[simp] theorem State.putFreeIx_scan (s : State) (x : Nat) : (s.putFreeIx x).scan = s.scan := rfl
@[simp] theorem State.putFreeIx_link (s : State) (x : Nat) : (s.putFreeIx x).link = s.link := rfl
@[simp] theorem State.putFreeIx_freeIx (s : State) (x : Nat) : (s.putFreeIx x).freeIx = x := rfl

/-! ### Indexed records -/

@[simp] theorem State.putPending_station (s : State) (x : (List Instr)) (i : StationIx) : (s.putPending x).station i = s.station i := rfl
@[simp] theorem State.putPowered_station (s : State) (x : Bool) (i : StationIx) : (s.putPowered x).station i = s.station i := rfl
@[simp] theorem State.putGeom_station (s : State) (x : GeometryStore) (i : StationIx) : (s.putGeom x).station i = s.station i := rfl
@[simp] theorem State.putWeb_station (s : State) (x : WebMeasure) (i : StationIx) : (s.putWeb x).station i = s.station i := rfl
@[simp] theorem State.putTrack_station (s : State) (x : TagTrack) (i : StationIx) : (s.putTrack x).station i = s.station i := rfl
@[simp] theorem State.putReports_station (s : State) (x : ReportBlock) (i : StationIx) : (s.putReports x).station i = s.station i := rfl
@[simp] theorem State.putChannels_station (s : State) (x : (Vector Channel 16)) (i : StationIx) : (s.putChannels x).station i = s.station i := rfl
@[simp] theorem State.putSlots_station (s : State) (x : (Vector Slot 4)) (i : StationIx) : (s.putSlots x).station i = s.station i := rfl
@[simp] theorem State.putChangeover_station (s : State) (x : Changeover) (i : StationIx) : (s.putChangeover x).station i = s.station i := rfl
@[simp] theorem State.putOven_station (s : State) (x : Oven) (i : StationIx) : (s.putOven x).station i = s.station i := rfl
@[simp] theorem State.putGov_station (s : State) (x : Governor) (i : StationIx) : (s.putGov x).station i = s.station i := rfl
@[simp] theorem State.putScan_station (s : State) (x : Scanner) (i : StationIx) : (s.putScan x).station i = s.station i := rfl
@[simp] theorem State.putLink_station (s : State) (x : Link) (i : StationIx) : (s.putLink x).station i = s.station i := rfl
@[simp] theorem State.putFreeIx_station (s : State) (x : Nat) (i : StationIx) : (s.putFreeIx x).station i = s.station i := rfl
@[simp] theorem State.putPending_channel (s : State) (x : (List Instr)) (i : StationIx) : (s.putPending x).channel i = s.channel i := rfl
@[simp] theorem State.putPowered_channel (s : State) (x : Bool) (i : StationIx) : (s.putPowered x).channel i = s.channel i := rfl
@[simp] theorem State.putGeom_channel (s : State) (x : GeometryStore) (i : StationIx) : (s.putGeom x).channel i = s.channel i := rfl
@[simp] theorem State.putWeb_channel (s : State) (x : WebMeasure) (i : StationIx) : (s.putWeb x).channel i = s.channel i := rfl
@[simp] theorem State.putTrack_channel (s : State) (x : TagTrack) (i : StationIx) : (s.putTrack x).channel i = s.channel i := rfl
@[simp] theorem State.putReports_channel (s : State) (x : ReportBlock) (i : StationIx) : (s.putReports x).channel i = s.channel i := rfl
@[simp] theorem State.putStations_channel (s : State) (x : (Vector Station 16)) (i : StationIx) : (s.putStations x).channel i = s.channel i := rfl
@[simp] theorem State.putSlots_channel (s : State) (x : (Vector Slot 4)) (i : StationIx) : (s.putSlots x).channel i = s.channel i := rfl
@[simp] theorem State.putChangeover_channel (s : State) (x : Changeover) (i : StationIx) : (s.putChangeover x).channel i = s.channel i := rfl
@[simp] theorem State.putOven_channel (s : State) (x : Oven) (i : StationIx) : (s.putOven x).channel i = s.channel i := rfl
@[simp] theorem State.putGov_channel (s : State) (x : Governor) (i : StationIx) : (s.putGov x).channel i = s.channel i := rfl
@[simp] theorem State.putScan_channel (s : State) (x : Scanner) (i : StationIx) : (s.putScan x).channel i = s.channel i := rfl
@[simp] theorem State.putLink_channel (s : State) (x : Link) (i : StationIx) : (s.putLink x).channel i = s.channel i := rfl
@[simp] theorem State.putFreeIx_channel (s : State) (x : Nat) (i : StationIx) : (s.putFreeIx x).channel i = s.channel i := rfl
@[simp] theorem State.putPending_slot (s : State) (x : (List Instr)) (i : SlotIx) : (s.putPending x).slot i = s.slot i := rfl
@[simp] theorem State.putPowered_slot (s : State) (x : Bool) (i : SlotIx) : (s.putPowered x).slot i = s.slot i := rfl
@[simp] theorem State.putGeom_slot (s : State) (x : GeometryStore) (i : SlotIx) : (s.putGeom x).slot i = s.slot i := rfl
@[simp] theorem State.putWeb_slot (s : State) (x : WebMeasure) (i : SlotIx) : (s.putWeb x).slot i = s.slot i := rfl
@[simp] theorem State.putTrack_slot (s : State) (x : TagTrack) (i : SlotIx) : (s.putTrack x).slot i = s.slot i := rfl
@[simp] theorem State.putReports_slot (s : State) (x : ReportBlock) (i : SlotIx) : (s.putReports x).slot i = s.slot i := rfl
@[simp] theorem State.putChannels_slot (s : State) (x : (Vector Channel 16)) (i : SlotIx) : (s.putChannels x).slot i = s.slot i := rfl
@[simp] theorem State.putStations_slot (s : State) (x : (Vector Station 16)) (i : SlotIx) : (s.putStations x).slot i = s.slot i := rfl
@[simp] theorem State.putChangeover_slot (s : State) (x : Changeover) (i : SlotIx) : (s.putChangeover x).slot i = s.slot i := rfl
@[simp] theorem State.putOven_slot (s : State) (x : Oven) (i : SlotIx) : (s.putOven x).slot i = s.slot i := rfl
@[simp] theorem State.putGov_slot (s : State) (x : Governor) (i : SlotIx) : (s.putGov x).slot i = s.slot i := rfl
@[simp] theorem State.putScan_slot (s : State) (x : Scanner) (i : SlotIx) : (s.putScan x).slot i = s.slot i := rfl
@[simp] theorem State.putLink_slot (s : State) (x : Link) (i : SlotIx) : (s.putLink x).slot i = s.slot i := rfl
@[simp] theorem State.putFreeIx_slot (s : State) (x : Nat) (i : SlotIx) : (s.putFreeIx x).slot i = s.slot i := rfl
@[simp] theorem State.putPending_point (s : State) (x : (List Instr)) (i : PointNo) : (s.putPending x).point i = s.point i := rfl
@[simp] theorem State.putPowered_point (s : State) (x : Bool) (i : PointNo) : (s.putPowered x).point i = s.point i := rfl
@[simp] theorem State.putGeom_point (s : State) (x : GeometryStore) (i : PointNo) : (s.putGeom x).point i = s.point i := rfl
@[simp] theorem State.putWeb_point (s : State) (x : WebMeasure) (i : PointNo) : (s.putWeb x).point i = s.point i := rfl
@[simp] theorem State.putTrack_point (s : State) (x : TagTrack) (i : PointNo) : (s.putTrack x).point i = s.point i := rfl
@[simp] theorem State.putReports_point (s : State) (x : ReportBlock) (i : PointNo) : (s.putReports x).point i = s.point i := rfl
@[simp] theorem State.putChannels_point (s : State) (x : (Vector Channel 16)) (i : PointNo) : (s.putChannels x).point i = s.point i := rfl
@[simp] theorem State.putStations_point (s : State) (x : (Vector Station 16)) (i : PointNo) : (s.putStations x).point i = s.point i := rfl
@[simp] theorem State.putSlots_point (s : State) (x : (Vector Slot 4)) (i : PointNo) : (s.putSlots x).point i = s.point i := rfl
@[simp] theorem State.putChangeover_point (s : State) (x : Changeover) (i : PointNo) : (s.putChangeover x).point i = s.point i := rfl
@[simp] theorem State.putOven_point (s : State) (x : Oven) (i : PointNo) : (s.putOven x).point i = s.point i := rfl
@[simp] theorem State.putGov_point (s : State) (x : Governor) (i : PointNo) : (s.putGov x).point i = s.point i := rfl
@[simp] theorem State.putLink_point (s : State) (x : Link) (i : PointNo) : (s.putLink x).point i = s.point i := rfl
@[simp] theorem State.putFreeIx_point (s : State) (x : Nat) (i : PointNo) : (s.putFreeIx x).point i = s.point i := rfl
@[simp] theorem State.putPending_notice (s : State) (x : (List Instr)) (i : NoticeNo) : (s.putPending x).notice i = s.notice i := rfl
@[simp] theorem State.putPowered_notice (s : State) (x : Bool) (i : NoticeNo) : (s.putPowered x).notice i = s.notice i := rfl
@[simp] theorem State.putGeom_notice (s : State) (x : GeometryStore) (i : NoticeNo) : (s.putGeom x).notice i = s.notice i := rfl
@[simp] theorem State.putWeb_notice (s : State) (x : WebMeasure) (i : NoticeNo) : (s.putWeb x).notice i = s.notice i := rfl
@[simp] theorem State.putTrack_notice (s : State) (x : TagTrack) (i : NoticeNo) : (s.putTrack x).notice i = s.notice i := rfl
@[simp] theorem State.putReports_notice (s : State) (x : ReportBlock) (i : NoticeNo) : (s.putReports x).notice i = s.notice i := rfl
@[simp] theorem State.putChannels_notice (s : State) (x : (Vector Channel 16)) (i : NoticeNo) : (s.putChannels x).notice i = s.notice i := rfl
@[simp] theorem State.putStations_notice (s : State) (x : (Vector Station 16)) (i : NoticeNo) : (s.putStations x).notice i = s.notice i := rfl
@[simp] theorem State.putSlots_notice (s : State) (x : (Vector Slot 4)) (i : NoticeNo) : (s.putSlots x).notice i = s.notice i := rfl
@[simp] theorem State.putChangeover_notice (s : State) (x : Changeover) (i : NoticeNo) : (s.putChangeover x).notice i = s.notice i := rfl
@[simp] theorem State.putOven_notice (s : State) (x : Oven) (i : NoticeNo) : (s.putOven x).notice i = s.notice i := rfl
@[simp] theorem State.putGov_notice (s : State) (x : Governor) (i : NoticeNo) : (s.putGov x).notice i = s.notice i := rfl
@[simp] theorem State.putScan_notice (s : State) (x : Scanner) (i : NoticeNo) : (s.putScan x).notice i = s.notice i := rfl
@[simp] theorem State.putFreeIx_notice (s : State) (x : Nat) (i : NoticeNo) : (s.putFreeIx x).notice i = s.notice i := rfl
@[simp] theorem State.putStation_pending (s : State) (i : StationIx) (x : Station) : (s.putStation i x).pending = s.pending := rfl
@[simp] theorem State.putStation_powered (s : State) (i : StationIx) (x : Station) : (s.putStation i x).powered = s.powered := rfl
@[simp] theorem State.putStation_geom (s : State) (i : StationIx) (x : Station) : (s.putStation i x).geom = s.geom := rfl
@[simp] theorem State.putStation_web (s : State) (i : StationIx) (x : Station) : (s.putStation i x).web = s.web := rfl
@[simp] theorem State.putStation_track (s : State) (i : StationIx) (x : Station) : (s.putStation i x).track = s.track := rfl
@[simp] theorem State.putStation_reports (s : State) (i : StationIx) (x : Station) : (s.putStation i x).reports = s.reports := rfl
@[simp] theorem State.putStation_channels (s : State) (i : StationIx) (x : Station) : (s.putStation i x).channels = s.channels := rfl
@[simp] theorem State.putStation_slots (s : State) (i : StationIx) (x : Station) : (s.putStation i x).slots = s.slots := rfl
@[simp] theorem State.putStation_changeover (s : State) (i : StationIx) (x : Station) : (s.putStation i x).changeover = s.changeover := rfl
@[simp] theorem State.putStation_oven (s : State) (i : StationIx) (x : Station) : (s.putStation i x).oven = s.oven := rfl
@[simp] theorem State.putStation_gov (s : State) (i : StationIx) (x : Station) : (s.putStation i x).gov = s.gov := rfl
@[simp] theorem State.putStation_scan (s : State) (i : StationIx) (x : Station) : (s.putStation i x).scan = s.scan := rfl
@[simp] theorem State.putStation_link (s : State) (i : StationIx) (x : Station) : (s.putStation i x).link = s.link := rfl
@[simp] theorem State.putStation_freeIx (s : State) (i : StationIx) (x : Station) : (s.putStation i x).freeIx = s.freeIx := rfl
@[simp] theorem State.putStation_channel (s : State) (i : StationIx) (x : Station) (j : StationIx) : (s.putStation i x).channel j = s.channel j := rfl
@[simp] theorem State.putStation_slot (s : State) (i : StationIx) (x : Station) (j : SlotIx) : (s.putStation i x).slot j = s.slot j := rfl
@[simp] theorem State.putStation_point (s : State) (i : StationIx) (x : Station) (j : PointNo) : (s.putStation i x).point j = s.point j := rfl
@[simp] theorem State.putStation_notice (s : State) (i : StationIx) (x : Station) (j : NoticeNo) : (s.putStation i x).notice j = s.notice j := rfl
@[simp] theorem State.putStation_same (s : State) (i : StationIx) (x : Station) : (s.putStation i x).station i = x := by
  simp [State.putStation, State.station]
theorem State.putStation_other (s : State) (i j : StationIx) (x : Station) (h : j ≠ i) : (s.putStation i x).station j = s.station j := by
  have h' : (i : Nat) ≠ j := fun e => h (Fin.ext e.symm)
  simp [State.putStation, State.station, Vector.getElem_set_ne, h']
theorem State.putStation_apply (s : State) (i j : StationIx) (x : Station) :
    (s.putStation i x).station j = if j = i then x else s.station j := by
  by_cases h : j = i
  · subst h; simp
  · simp [h, State.putStation_other s i j x h]
@[simp] theorem State.putChannel_pending (s : State) (i : StationIx) (x : Channel) : (s.putChannel i x).pending = s.pending := rfl
@[simp] theorem State.putChannel_powered (s : State) (i : StationIx) (x : Channel) : (s.putChannel i x).powered = s.powered := rfl
@[simp] theorem State.putChannel_geom (s : State) (i : StationIx) (x : Channel) : (s.putChannel i x).geom = s.geom := rfl
@[simp] theorem State.putChannel_web (s : State) (i : StationIx) (x : Channel) : (s.putChannel i x).web = s.web := rfl
@[simp] theorem State.putChannel_track (s : State) (i : StationIx) (x : Channel) : (s.putChannel i x).track = s.track := rfl
@[simp] theorem State.putChannel_reports (s : State) (i : StationIx) (x : Channel) : (s.putChannel i x).reports = s.reports := rfl
@[simp] theorem State.putChannel_stations (s : State) (i : StationIx) (x : Channel) : (s.putChannel i x).stations = s.stations := rfl
@[simp] theorem State.putChannel_slots (s : State) (i : StationIx) (x : Channel) : (s.putChannel i x).slots = s.slots := rfl
@[simp] theorem State.putChannel_changeover (s : State) (i : StationIx) (x : Channel) : (s.putChannel i x).changeover = s.changeover := rfl
@[simp] theorem State.putChannel_oven (s : State) (i : StationIx) (x : Channel) : (s.putChannel i x).oven = s.oven := rfl
@[simp] theorem State.putChannel_gov (s : State) (i : StationIx) (x : Channel) : (s.putChannel i x).gov = s.gov := rfl
@[simp] theorem State.putChannel_scan (s : State) (i : StationIx) (x : Channel) : (s.putChannel i x).scan = s.scan := rfl
@[simp] theorem State.putChannel_link (s : State) (i : StationIx) (x : Channel) : (s.putChannel i x).link = s.link := rfl
@[simp] theorem State.putChannel_freeIx (s : State) (i : StationIx) (x : Channel) : (s.putChannel i x).freeIx = s.freeIx := rfl
@[simp] theorem State.putChannel_station (s : State) (i : StationIx) (x : Channel) (j : StationIx) : (s.putChannel i x).station j = s.station j := rfl
@[simp] theorem State.putChannel_slot (s : State) (i : StationIx) (x : Channel) (j : SlotIx) : (s.putChannel i x).slot j = s.slot j := rfl
@[simp] theorem State.putChannel_point (s : State) (i : StationIx) (x : Channel) (j : PointNo) : (s.putChannel i x).point j = s.point j := rfl
@[simp] theorem State.putChannel_notice (s : State) (i : StationIx) (x : Channel) (j : NoticeNo) : (s.putChannel i x).notice j = s.notice j := rfl
@[simp] theorem State.putChannel_same (s : State) (i : StationIx) (x : Channel) : (s.putChannel i x).channel i = x := by
  simp [State.putChannel, State.channel]
theorem State.putChannel_other (s : State) (i j : StationIx) (x : Channel) (h : j ≠ i) : (s.putChannel i x).channel j = s.channel j := by
  have h' : (i : Nat) ≠ j := fun e => h (Fin.ext e.symm)
  simp [State.putChannel, State.channel, Vector.getElem_set_ne, h']
theorem State.putChannel_apply (s : State) (i j : StationIx) (x : Channel) :
    (s.putChannel i x).channel j = if j = i then x else s.channel j := by
  by_cases h : j = i
  · subst h; simp
  · simp [h, State.putChannel_other s i j x h]
@[simp] theorem State.putSlot_pending (s : State) (i : SlotIx) (x : Slot) : (s.putSlot i x).pending = s.pending := rfl
@[simp] theorem State.putSlot_powered (s : State) (i : SlotIx) (x : Slot) : (s.putSlot i x).powered = s.powered := rfl
@[simp] theorem State.putSlot_geom (s : State) (i : SlotIx) (x : Slot) : (s.putSlot i x).geom = s.geom := rfl
@[simp] theorem State.putSlot_web (s : State) (i : SlotIx) (x : Slot) : (s.putSlot i x).web = s.web := rfl
@[simp] theorem State.putSlot_track (s : State) (i : SlotIx) (x : Slot) : (s.putSlot i x).track = s.track := rfl
@[simp] theorem State.putSlot_reports (s : State) (i : SlotIx) (x : Slot) : (s.putSlot i x).reports = s.reports := rfl
@[simp] theorem State.putSlot_channels (s : State) (i : SlotIx) (x : Slot) : (s.putSlot i x).channels = s.channels := rfl
@[simp] theorem State.putSlot_stations (s : State) (i : SlotIx) (x : Slot) : (s.putSlot i x).stations = s.stations := rfl
@[simp] theorem State.putSlot_changeover (s : State) (i : SlotIx) (x : Slot) : (s.putSlot i x).changeover = s.changeover := rfl
@[simp] theorem State.putSlot_oven (s : State) (i : SlotIx) (x : Slot) : (s.putSlot i x).oven = s.oven := rfl
@[simp] theorem State.putSlot_gov (s : State) (i : SlotIx) (x : Slot) : (s.putSlot i x).gov = s.gov := rfl
@[simp] theorem State.putSlot_scan (s : State) (i : SlotIx) (x : Slot) : (s.putSlot i x).scan = s.scan := rfl
@[simp] theorem State.putSlot_link (s : State) (i : SlotIx) (x : Slot) : (s.putSlot i x).link = s.link := rfl
@[simp] theorem State.putSlot_freeIx (s : State) (i : SlotIx) (x : Slot) : (s.putSlot i x).freeIx = s.freeIx := rfl
@[simp] theorem State.putSlot_station (s : State) (i : SlotIx) (x : Slot) (j : StationIx) : (s.putSlot i x).station j = s.station j := rfl
@[simp] theorem State.putSlot_channel (s : State) (i : SlotIx) (x : Slot) (j : StationIx) : (s.putSlot i x).channel j = s.channel j := rfl
@[simp] theorem State.putSlot_point (s : State) (i : SlotIx) (x : Slot) (j : PointNo) : (s.putSlot i x).point j = s.point j := rfl
@[simp] theorem State.putSlot_notice (s : State) (i : SlotIx) (x : Slot) (j : NoticeNo) : (s.putSlot i x).notice j = s.notice j := rfl
@[simp] theorem State.putSlot_same (s : State) (i : SlotIx) (x : Slot) : (s.putSlot i x).slot i = x := by
  simp [State.putSlot, State.slot]
theorem State.putSlot_other (s : State) (i j : SlotIx) (x : Slot) (h : j ≠ i) : (s.putSlot i x).slot j = s.slot j := by
  have h' : (i : Nat) ≠ j := fun e => h (Fin.ext e.symm)
  simp [State.putSlot, State.slot, Vector.getElem_set_ne, h']
theorem State.putSlot_apply (s : State) (i j : SlotIx) (x : Slot) :
    (s.putSlot i x).slot j = if j = i then x else s.slot j := by
  by_cases h : j = i
  · subst h; simp
  · simp [h, State.putSlot_other s i j x h]

@[simp] theorem State.putPoint_pending (s : State) (p : PointNo) (x : Point) : (s.putPoint p x).pending = s.pending := rfl
@[simp] theorem State.putPoint_powered (s : State) (p : PointNo) (x : Point) : (s.putPoint p x).powered = s.powered := rfl
@[simp] theorem State.putPoint_geom (s : State) (p : PointNo) (x : Point) : (s.putPoint p x).geom = s.geom := rfl
@[simp] theorem State.putPoint_web (s : State) (p : PointNo) (x : Point) : (s.putPoint p x).web = s.web := rfl
@[simp] theorem State.putPoint_track (s : State) (p : PointNo) (x : Point) : (s.putPoint p x).track = s.track := rfl
@[simp] theorem State.putPoint_reports (s : State) (p : PointNo) (x : Point) : (s.putPoint p x).reports = s.reports := rfl
@[simp] theorem State.putPoint_channels (s : State) (p : PointNo) (x : Point) : (s.putPoint p x).channels = s.channels := rfl
@[simp] theorem State.putPoint_stations (s : State) (p : PointNo) (x : Point) : (s.putPoint p x).stations = s.stations := rfl
@[simp] theorem State.putPoint_slots (s : State) (p : PointNo) (x : Point) : (s.putPoint p x).slots = s.slots := rfl
@[simp] theorem State.putPoint_changeover (s : State) (p : PointNo) (x : Point) : (s.putPoint p x).changeover = s.changeover := rfl
@[simp] theorem State.putPoint_oven (s : State) (p : PointNo) (x : Point) : (s.putPoint p x).oven = s.oven := rfl
@[simp] theorem State.putPoint_gov (s : State) (p : PointNo) (x : Point) : (s.putPoint p x).gov = s.gov := rfl
@[simp] theorem State.putPoint_link (s : State) (p : PointNo) (x : Point) : (s.putPoint p x).link = s.link := rfl
@[simp] theorem State.putPoint_freeIx (s : State) (p : PointNo) (x : Point) : (s.putPoint p x).freeIx = s.freeIx := rfl
@[simp] theorem State.putPoint_station (s : State) (p : PointNo) (x : Point) (j : StationIx) : (s.putPoint p x).station j = s.station j := rfl
@[simp] theorem State.putPoint_channel (s : State) (p : PointNo) (x : Point) (j : StationIx) : (s.putPoint p x).channel j = s.channel j := rfl
@[simp] theorem State.putPoint_slot (s : State) (p : PointNo) (x : Point) (j : SlotIx) : (s.putPoint p x).slot j = s.slot j := rfl
@[simp] theorem State.putPoint_notice (s : State) (p : PointNo) (x : Point) (j : NoticeNo) : (s.putPoint p x).notice j = s.notice j := rfl
@[simp] theorem State.putNotice_pending (s : State) (n : NoticeNo) (x : Notice) : (s.putNotice n x).pending = s.pending := rfl
@[simp] theorem State.putNotice_powered (s : State) (n : NoticeNo) (x : Notice) : (s.putNotice n x).powered = s.powered := rfl
@[simp] theorem State.putNotice_geom (s : State) (n : NoticeNo) (x : Notice) : (s.putNotice n x).geom = s.geom := rfl
@[simp] theorem State.putNotice_web (s : State) (n : NoticeNo) (x : Notice) : (s.putNotice n x).web = s.web := rfl
@[simp] theorem State.putNotice_track (s : State) (n : NoticeNo) (x : Notice) : (s.putNotice n x).track = s.track := rfl
@[simp] theorem State.putNotice_reports (s : State) (n : NoticeNo) (x : Notice) : (s.putNotice n x).reports = s.reports := rfl
@[simp] theorem State.putNotice_channels (s : State) (n : NoticeNo) (x : Notice) : (s.putNotice n x).channels = s.channels := rfl
@[simp] theorem State.putNotice_stations (s : State) (n : NoticeNo) (x : Notice) : (s.putNotice n x).stations = s.stations := rfl
@[simp] theorem State.putNotice_slots (s : State) (n : NoticeNo) (x : Notice) : (s.putNotice n x).slots = s.slots := rfl
@[simp] theorem State.putNotice_changeover (s : State) (n : NoticeNo) (x : Notice) : (s.putNotice n x).changeover = s.changeover := rfl
@[simp] theorem State.putNotice_oven (s : State) (n : NoticeNo) (x : Notice) : (s.putNotice n x).oven = s.oven := rfl
@[simp] theorem State.putNotice_gov (s : State) (n : NoticeNo) (x : Notice) : (s.putNotice n x).gov = s.gov := rfl
@[simp] theorem State.putNotice_scan (s : State) (n : NoticeNo) (x : Notice) : (s.putNotice n x).scan = s.scan := rfl
@[simp] theorem State.putNotice_freeIx (s : State) (n : NoticeNo) (x : Notice) : (s.putNotice n x).freeIx = s.freeIx := rfl
@[simp] theorem State.putNotice_station (s : State) (n : NoticeNo) (x : Notice) (j : StationIx) : (s.putNotice n x).station j = s.station j := rfl
@[simp] theorem State.putNotice_channel (s : State) (n : NoticeNo) (x : Notice) (j : StationIx) : (s.putNotice n x).channel j = s.channel j := rfl
@[simp] theorem State.putNotice_slot (s : State) (n : NoticeNo) (x : Notice) (j : SlotIx) : (s.putNotice n x).slot j = s.slot j := rfl
@[simp] theorem State.putNotice_point (s : State) (n : NoticeNo) (x : Notice) (j : PointNo) : (s.putNotice n x).point j = s.point j := rfl
@[simp] theorem State.putTags_pending (s : State) (l : List Tag) : (s.putTags l).pending = s.pending := rfl
@[simp] theorem State.putTags_powered (s : State) (l : List Tag) : (s.putTags l).powered = s.powered := rfl
@[simp] theorem State.putTags_geom (s : State) (l : List Tag) : (s.putTags l).geom = s.geom := rfl
@[simp] theorem State.putTags_web (s : State) (l : List Tag) : (s.putTags l).web = s.web := rfl
@[simp] theorem State.putTags_reports (s : State) (l : List Tag) : (s.putTags l).reports = s.reports := rfl
@[simp] theorem State.putTags_channels (s : State) (l : List Tag) : (s.putTags l).channels = s.channels := rfl
@[simp] theorem State.putTags_stations (s : State) (l : List Tag) : (s.putTags l).stations = s.stations := rfl
@[simp] theorem State.putTags_slots (s : State) (l : List Tag) : (s.putTags l).slots = s.slots := rfl
@[simp] theorem State.putTags_changeover (s : State) (l : List Tag) : (s.putTags l).changeover = s.changeover := rfl
@[simp] theorem State.putTags_oven (s : State) (l : List Tag) : (s.putTags l).oven = s.oven := rfl
@[simp] theorem State.putTags_gov (s : State) (l : List Tag) : (s.putTags l).gov = s.gov := rfl
@[simp] theorem State.putTags_scan (s : State) (l : List Tag) : (s.putTags l).scan = s.scan := rfl
@[simp] theorem State.putTags_link (s : State) (l : List Tag) : (s.putTags l).link = s.link := rfl
@[simp] theorem State.putTags_freeIx (s : State) (l : List Tag) : (s.putTags l).freeIx = s.freeIx := rfl
@[simp] theorem State.putTags_station (s : State) (l : List Tag) (j : StationIx) : (s.putTags l).station j = s.station j := rfl
@[simp] theorem State.putTags_channel (s : State) (l : List Tag) (j : StationIx) : (s.putTags l).channel j = s.channel j := rfl
@[simp] theorem State.putTags_slot (s : State) (l : List Tag) (j : SlotIx) : (s.putTags l).slot j = s.slot j := rfl
@[simp] theorem State.putTags_point (s : State) (l : List Tag) (j : PointNo) : (s.putTags l).point j = s.point j := rfl
@[simp] theorem State.putTags_notice (s : State) (l : List Tag) (j : NoticeNo) : (s.putTags l).notice j = s.notice j := rfl
@[simp] theorem State.putReceiver_pending (s : State) (r : Option Gathering) : (s.putReceiver r).pending = s.pending := rfl
@[simp] theorem State.putReceiver_powered (s : State) (r : Option Gathering) : (s.putReceiver r).powered = s.powered := rfl
@[simp] theorem State.putReceiver_geom (s : State) (r : Option Gathering) : (s.putReceiver r).geom = s.geom := rfl
@[simp] theorem State.putReceiver_web (s : State) (r : Option Gathering) : (s.putReceiver r).web = s.web := rfl
@[simp] theorem State.putReceiver_track (s : State) (r : Option Gathering) : (s.putReceiver r).track = s.track := rfl
@[simp] theorem State.putReceiver_reports (s : State) (r : Option Gathering) : (s.putReceiver r).reports = s.reports := rfl
@[simp] theorem State.putReceiver_channels (s : State) (r : Option Gathering) : (s.putReceiver r).channels = s.channels := rfl
@[simp] theorem State.putReceiver_stations (s : State) (r : Option Gathering) : (s.putReceiver r).stations = s.stations := rfl
@[simp] theorem State.putReceiver_slots (s : State) (r : Option Gathering) : (s.putReceiver r).slots = s.slots := rfl
@[simp] theorem State.putReceiver_changeover (s : State) (r : Option Gathering) : (s.putReceiver r).changeover = s.changeover := rfl
@[simp] theorem State.putReceiver_oven (s : State) (r : Option Gathering) : (s.putReceiver r).oven = s.oven := rfl
@[simp] theorem State.putReceiver_gov (s : State) (r : Option Gathering) : (s.putReceiver r).gov = s.gov := rfl
@[simp] theorem State.putReceiver_scan (s : State) (r : Option Gathering) : (s.putReceiver r).scan = s.scan := rfl
@[simp] theorem State.putReceiver_freeIx (s : State) (r : Option Gathering) : (s.putReceiver r).freeIx = s.freeIx := rfl
@[simp] theorem State.putReceiver_station (s : State) (r : Option Gathering) (j : StationIx) : (s.putReceiver r).station j = s.station j := rfl
@[simp] theorem State.putReceiver_channel (s : State) (r : Option Gathering) (j : StationIx) : (s.putReceiver r).channel j = s.channel j := rfl
@[simp] theorem State.putReceiver_slot (s : State) (r : Option Gathering) (j : SlotIx) : (s.putReceiver r).slot j = s.slot j := rfl
@[simp] theorem State.putReceiver_point (s : State) (r : Option Gathering) (j : PointNo) : (s.putReceiver r).point j = s.point j := rfl

@[simp] theorem State.putTags_tags (s : State) (l : List Tag) : (s.putTags l).tags = l := rfl
@[simp] theorem State.putTags_nextId (s : State) (l : List Tag) : (s.putTags l).track.nextId = s.track.nextId := rfl
@[simp] theorem State.putTags_declarations (s : State) (l : List Tag) :
    (s.putTags l).track.declarations = s.track.declarations := rfl
@[simp] theorem State.putReceiver_receiver (s : State) (r : Option Gathering) : (s.putReceiver r).link.receiver = r := rfl

@[simp] theorem State.putPoint_same (s : State) (p : PointNo) (x : Point) : (s.putPoint p x).point p = x := by
  simp [State.putPoint, State.point, State.putScan]
theorem State.putPoint_other (s : State) (p q : PointNo) (x : Point) (h : q ≠ p) : (s.putPoint p x).point q = s.point q := by
  have h' : (p : Nat) ≠ q := fun e => h (Fin.ext e.symm)
  simp [State.putPoint, State.point, State.putScan, Vector.getElem_set_ne, h']

@[simp] theorem State.putNotice_same (s : State) (n : NoticeNo) (x : Notice) : (s.putNotice n x).notice n = x := by
  simp [State.putNotice, State.notice, State.putLink]
theorem State.putNotice_other (s : State) (n m : NoticeNo) (x : Notice) (h : m ≠ n) :
    (s.putNotice n x).notice m = s.notice m := by
  have h' : (n : Nat) ≠ m := fun e => h (Fin.ext e.symm)
  simp [State.putNotice, State.notice, State.putLink, Vector.getElem_set_ne, h']

end Sys2Proof.Machine
end

