-- ==== Sys2Proof/Laws/Frames.lean ====
section
/-! SUPPORT. What each shared operation leaves alone: one lemma per operation, in the terms of `ChangesOnly`. -/
namespace Sys2Proof.Machine

/-! ### The frame relation -/

theorem ChangesOnly.refl (l : List Block) (s : State) : ChangesOnly l s s :=
  ⟨rfl, rfl, fun b _ => by cases b <;> rfl⟩

theorem State.agreesIn_trans {s t u : State} {b : Block} (h : s.agreesIn t b) (h' : t.agreesIn u b) : s.agreesIn u b := by
  cases b <;> exact Eq.trans h' h

theorem ChangesOnly.trans {l : List Block} {s t u : State} (h : ChangesOnly l s t) (h' : ChangesOnly l t u) :
    ChangesOnly l s u :=
  ⟨h'.1.trans h.1, h'.2.1.trans h.2.1, fun b hb => State.agreesIn_trans (h.2.2 b hb) (h'.2.2 b hb)⟩

theorem ChangesOnly.mono {l l' : List Block} {s t : State} (h : ChangesOnly l s t) (hl : l ⊆ l') : ChangesOnly l' s t :=
  ⟨h.1, h.2.1, fun b hb => h.2.2 b (fun hm => hb (hl hm))⟩

/-- Two operations in a row. -/
theorem ChangesOnly.andThen {l : List Block} {s t : State} (g : State → State) (h : ChangesOnly l s t)
    (hg : ∀ x, ChangesOnly l x (g x)) : ChangesOnly l s (g t) := h.trans (hg t)

/-- A fold of operations that each change only the listed blocks. -/
theorem ChangesOnly.foldl {α : Type} {l : List Block} (f : State → α → State) (h : ∀ s a, ChangesOnly l s (f s a))
    (as : List α) (s : State) : ChangesOnly l s (as.foldl f s) := by
  induction as generalizing s with
  | nil => exact .refl l s
  | cons a as ih => exact (h s a).trans (ih (f s a))

/-! ### Updates of one block -/

theorem changes_putGeom (s : State) (x : GeometryStore) : ChangesOnly [.geom] s (s.putGeom x) :=
  ⟨rfl, rfl, fun b hb => by cases b <;> first | rfl | exact absurd (List.mem_singleton.mpr rfl) hb⟩
theorem changes_putWeb (s : State) (x : WebMeasure) : ChangesOnly [.web] s (s.putWeb x) :=
  ⟨rfl, rfl, fun b hb => by cases b <;> first | rfl | exact absurd (List.mem_singleton.mpr rfl) hb⟩
theorem changes_putTrack (s : State) (x : TagTrack) : ChangesOnly [.track] s (s.putTrack x) :=
  ⟨rfl, rfl, fun b hb => by cases b <;> first | rfl | exact absurd (List.mem_singleton.mpr rfl) hb⟩
theorem changes_putReports (s : State) (x : ReportBlock) : ChangesOnly [.reports] s (s.putReports x) :=
  ⟨rfl, rfl, fun b hb => by cases b <;> first | rfl | exact absurd (List.mem_singleton.mpr rfl) hb⟩
theorem changes_putChannels (s : State) (x : Vector Channel 16) : ChangesOnly [.channels] s (s.putChannels x) :=
  ⟨rfl, rfl, fun b hb => by cases b <;> first | rfl | exact absurd (List.mem_singleton.mpr rfl) hb⟩
theorem changes_putStations (s : State) (x : Vector Station 16) : ChangesOnly [.stations] s (s.putStations x) :=
  ⟨rfl, rfl, fun b hb => by cases b <;> first | rfl | exact absurd (List.mem_singleton.mpr rfl) hb⟩
theorem changes_putSlots (s : State) (x : Vector Slot 4) : ChangesOnly [.slots] s (s.putSlots x) :=
  ⟨rfl, rfl, fun b hb => by cases b <;> first | rfl | exact absurd (List.mem_singleton.mpr rfl) hb⟩
theorem changes_putChangeover (s : State) (x : Changeover) : ChangesOnly [.changeover] s (s.putChangeover x) :=
  ⟨rfl, rfl, fun b hb => by cases b <;> first | rfl | exact absurd (List.mem_singleton.mpr rfl) hb⟩
theorem changes_putOven (s : State) (x : Oven) : ChangesOnly [.oven] s (s.putOven x) :=
  ⟨rfl, rfl, fun b hb => by cases b <;> first | rfl | exact absurd (List.mem_singleton.mpr rfl) hb⟩
theorem changes_putGov (s : State) (x : Governor) : ChangesOnly [.gov] s (s.putGov x) :=
  ⟨rfl, rfl, fun b hb => by cases b <;> first | rfl | exact absurd (List.mem_singleton.mpr rfl) hb⟩
theorem changes_putScan (s : State) (x : Scanner) : ChangesOnly [.scan] s (s.putScan x) :=
  ⟨rfl, rfl, fun b hb => by cases b <;> first | rfl | exact absurd (List.mem_singleton.mpr rfl) hb⟩
theorem changes_putLink (s : State) (x : Link) : ChangesOnly [.link] s (s.putLink x) :=
  ⟨rfl, rfl, fun b hb => by cases b <;> first | rfl | exact absurd (List.mem_singleton.mpr rfl) hb⟩
theorem changes_putFreeIx (s : State) (x : Nat) : ChangesOnly [.freeIx] s (s.putFreeIx x) :=
  ⟨rfl, rfl, fun b hb => by cases b <;> first | rfl | exact absurd (List.mem_singleton.mpr rfl) hb⟩

theorem changes_putStation (s : State) (k : StationIx) (x : Station) : ChangesOnly [.stations] s (s.putStation k x) :=
  changes_putStations s _
theorem changes_putChannel (s : State) (k : StationIx) (x : Channel) : ChangesOnly [.channels] s (s.putChannel k x) :=
  changes_putChannels s _
theorem changes_putSlot (s : State) (i : SlotIx) (x : Slot) : ChangesOnly [.slots] s (s.putSlot i x) := changes_putSlots s _
theorem changes_putNotice (s : State) (n : NoticeNo) (x : Notice) : ChangesOnly [.link] s (s.putNotice n x) :=
  changes_putLink s _
theorem changes_putPoint (s : State) (p : PointNo) (x : Point) : ChangesOnly [.scan] s (s.putPoint p x) :=
  changes_putScan s _
theorem changes_putTags (s : State) (l : List Tag) : ChangesOnly [.track] s (s.putTags l) := changes_putTrack s _
theorem changes_putReceiver (s : State) (r : Option Gathering) : ChangesOnly [.link] s (s.putReceiver r) :=
  changes_putLink s _

/-! ### Notices and trips -/

theorem changes_latch (d : NoticeDetail) (s : State) : ChangesOnly [.link] s (latch d s) := by
  unfold latch; split
  · exact .refl _ s
  · exact changes_putNotice s _ _

theorem changes_requestTrip (c : TripCause) (s : State) : ChangesOnly [.gov, .link] s (requestTrip c s) := by
  unfold requestTrip; split
  · exact (changes_putGov s _).mono (by simp)
  · exact ((changes_putGov s _).mono (by simp)).andThen _ (fun x => (changes_latch _ x).mono (by simp))

/-! ### Reports -/

theorem changes_offerReport (r : Report) (s : State) : ChangesOnly [.reports, .link] s (offerReport r s) := by
  unfold offerReport; split <;>
    exact ((changes_putReports s _).mono (by simp)).andThen _ (fun x => (changes_latch _ x).mono (by simp))

theorem changes_closeReport (u : Int) (c : ClosedBy) (s : State) : ChangesOnly [.reports, .link] s (closeReport u c s) := by
  unfold closeReport; split
  · exact .refl _ s
  · exact ((changes_putReports s _).mono (by simp)).andThen _ (fun x => changes_offerReport _ x)

theorem changes_addItem (k : ItemKind) (a b : Int) (s : State) : ChangesOnly [.reports] s (addItem k a b s) := by
  unfold addItem; split <;> exact changes_putReports s _

theorem changes_exitTag (t : Tag) (s : State) : ChangesOnly [.reports, .link] s (exitTag t s) := by
  unfold exitTag
  split
  · exact changes_closeReport _ _ s
  · exact (changes_closeReport _ _ s).andThen _ (fun x => (changes_putReports x _).mono (by simp))
  · exact (changes_addItem _ _ _ s).mono (by simp)
  · split
    · exact .refl _ s
    · exact (changes_addItem _ _ _ s).mono (by simp)
  all_goals exact (changes_addItem _ _ _ s).mono (by simp)

/-! ### The tag track -/

theorem changes_settleExit (n : Nat) (s : State) : ChangesOnly [.track, .reports, .link] s (settleExit n s) := by
  unfold settleExit
  split
  · exact .refl _ s
  · split
    · split
      · exact ((changes_exitTag _ s).mono (by simp)).andThen (fun x => x.putTags (dropTag n x.tags))
          (fun x => (changes_putTags x _).mono (by simp))
      · exact .refl _ s
    · exact .refl _ s

theorem changes_dropInsertion (k : TagKind) (u : Int) (s : State) : ChangesOnly [.track, .link] s (dropInsertion k u s) := by
  unfold dropInsertion
  exact ((changes_putTrack s _).mono (by simp)).trans ((changes_latch _ _).mono (by simp))

theorem changes_insertTag (k : TagKind) (u : Int) (e : Option Int) (s : State) :
    ChangesOnly [.track, .reports, .link] s (insertTag k u e s).1 := by
  unfold insertTag; split
  · exact ((changes_putTrack s _).mono (by simp)).andThen _ (fun x => changes_settleExit _ x)
  · exact (changes_dropInsertion k u s).mono (by simp)

theorem changes_closeSpan (n : Nat) (u : Int) (s : State) : ChangesOnly [.track, .reports, .link] s (closeSpan n u s) := by
  unfold closeSpan
  split
  · exact .refl _ s
  · split
    · exact ((changes_putTags s _).mono (by simp)).andThen _ (fun x => changes_settleExit _ x)
    · exact .refl _ s

theorem changes_closeRef (r : SpanRef) (u : Int) (s : State) : ChangesOnly [.track, .reports, .link] s (closeRef r u s) := by
  unfold closeRef; split
  · exact changes_closeSpan _ _ s
  all_goals exact .refl _ s

theorem changes_setUnplanned (n : Nat) (s : State) : ChangesOnly [.track] s (setUnplanned n s) := changes_putTags s _

theorem changes_holdHeadPlace (roll : RollRecord) (u : Int) (s : State) : ChangesOnly [.track] s (holdHeadPlace roll u s) :=
  changes_putTags s _

theorem changes_insertHead (s : State) : ChangesOnly [.track, .reports, .link] s (insertHead s) :=
  ((changes_putTrack s _).mono (by simp)).andThen (settleExit s.newId) (fun x => changes_settleExit _ x)

theorem changes_evictOne (t : Tag) (s : State) : ChangesOnly [.track, .link] s (evictOne t s) := by
  unfold evictOne
  exact ((changes_putTrack s _).mono (by simp)).trans ((changes_latch _ _).mono (by simp))

/-! ### Register channels -/

theorem changes_judgeMisregister (k : StationIx) (u : Int) (s : State) :
    ChangesOnly [.track, .reports, .channels, .link] s (judgeMisregister k u s) := by
  unfold judgeMisregister
  split
  · split
    · exact ((changes_insertTag _ _ _ s).mono (by simp)).trans ((changes_putChannel _ k _).mono (by simp))
    · exact .refl _ s
  · split
    · exact .refl _ s
    · exact ((changes_closeRef _ _ s).mono (by simp)).trans ((changes_putChannel _ k _).mono (by simp))

theorem changes_judgeAtNip (k : StationIx) (s : State) :
    ChangesOnly [.track, .reports, .channels, .link] s (judgeAtNip k s) := changes_judgeMisregister k _ s

/-! ### Stations -/

theorem changes_judgePlanned (k : StationIx) (s : State) : ChangesOnly [.track, .stations] s (judgePlanned k s) := by
  unfold judgePlanned
  dsimp only
  split
  · split
    · exact .refl _ s
    · exact ((changes_putStation s k _).mono (by simp)).andThen _ (fun x => (changes_setUnplanned _ x).mono (by simp))
    · exact (changes_putStation s k _).mono (by simp)
  · exact .refl _ s

theorem changes_judgeGap (k : StationIx) (s : State) :
    ChangesOnly [.track, .reports, .stations, .link] s (judgeGap k s) := by
  unfold judgeGap
  split
  · split
    · exact (((changes_insertTag _ _ _ s).mono (by simp)).trans ((changes_putStation _ k _).mono (by simp))).andThen _
        (fun x => (changes_judgePlanned k x).mono (by simp))
    · exact .refl _ s
  · split
    · exact .refl _ s
    · exact ((changes_closeRef _ _ s).mono (by simp)).trans ((changes_putStation _ k _).mono (by simp))

theorem changes_settleSpans (k : StationIx) (s : State) :
    ChangesOnly [.track, .reports, .channels, .stations, .link] s (settleSpans k s) :=
  ((changes_judgeGap k s).mono (by simp)).andThen _ (fun x => (changes_judgeAtNip k x).mono (by simp))

theorem changes_arriveDown (k : StationIx) (s : State) :
    ChangesOnly [.track, .reports, .channels, .stations, .link] s (arriveDown k s) :=
  ((changes_putStation s k _).mono (by simp)).andThen _ (fun x => changes_settleSpans k x)

theorem changes_enterLowering (k : StationIx) (s : State) :
    ChangesOnly [.track, .reports, .channels, .stations, .link] s (enterLowering k s) := by
  unfold enterLowering
  dsimp only
  split
  · exact ((changes_putStation s k _).mono (by simp)).andThen _ (fun x => changes_arriveDown k x)
  · exact (changes_putStation s k _).mono (by simp)

theorem changes_arriveUp (k : StationIx) (s : State) :
    ChangesOnly [.track, .reports, .channels, .stations, .link] s (arriveUp k s) := by
  unfold arriveUp
  dsimp only
  split
  · exact ((changes_putStation s k _).mono (by simp)).andThen _ (fun x => changes_enterLowering k x)
  · exact (changes_putStation s k _).mono (by simp)

theorem changes_enterRaising (k : StationIx) (s : State) :
    ChangesOnly [.track, .reports, .channels, .stations, .link] s (enterRaising k s) := by
  have h : ChangesOnly [.track, .reports, .channels, .stations, .link] s
      (settleSpans k (s.putStation k
        { s.station k with
          state := .raising, lowerOutput := false, lowerTimer := none
          raiseTimer := some (s.geo (fun g => g.stations[k].raiseTimeout)) })) :=
    ((changes_putStation s k _).mono (by simp)).andThen _ (fun x => changes_settleSpans k x)
  unfold enterRaising
  dsimp only
  split
  · exact h.andThen _ (fun x => changes_arriveUp k x)
  · exact h

theorem changes_enterStuck (k : StationIx) (c : StuckCause) (s : State) :
    ChangesOnly [.track, .reports, .channels, .stations, .link] s (enterStuck k c s) := by
  unfold enterStuck
  split
  · exact .refl _ s
  · exact ((((changes_putStation s k _).mono (by simp)).andThen _ (fun x => (changes_latch _ x).mono (by simp))).andThen _
      (fun x => (changes_judgePlanned k x).mono (by simp))).andThen _ (fun x => changes_settleSpans k x)

theorem changes_judgeStation (k : StationIx) (s : State) :
    ChangesOnly [.track, .reports, .channels, .stations, .link] s (judgeStation k s) := by
  unfold judgeStation
  dsimp only
  split
  · exact changes_enterRaising k s
  · exact changes_enterRaising k s
  · exact changes_enterLowering k s
  · exact .refl _ s

theorem changes_changeReasons (k : StationIx) (f : LiftSet → LiftSet) (s : State) :
    ChangesOnly [.track, .reports, .channels, .stations, .link] s (changeReasons k f s) :=
  (((changes_putStation s k _).mono (by simp)).andThen _ (fun x => (changes_judgePlanned k x).mono (by simp))).andThen _
    (fun x => changes_judgeStation k x)

theorem changes_setReason (k : StationIx) (r : LiftReason) (b : Bool) (s : State) :
    ChangesOnly [.track, .reports, .channels, .stations, .link] s (setReason k r b s) := changes_changeReasons k _ s

theorem changes_takeMode (k : StationIx) (m : Mode) (i : Option SlotIx) (p : Bool) (s : State) :
    ChangesOnly [.track, .reports, .channels, .stations, .link] s (takeMode k m i p s) :=
  (((changes_putStation s k _).mono (by simp)).andThen _ (fun x => changes_settleSpans k x)).andThen _
    (fun x => changes_changeReasons k _ x)

/-! ### Oven -/

theorem changes_takeDwell (s : State) : ChangesOnly [.oven] s (takeDwell s) := by
  unfold takeDwell
  split
  · split <;> exact changes_putOven s _
  · exact .refl _ s

theorem changes_openZone (n : ZoneIx) (s : State) : ChangesOnly [.track, .reports, .oven, .link] s (openZone n s) :=
  (((changes_insertTag _ _ _ s).mono (by simp)).trans ((changes_putOven _ _).mono (by simp))).andThen _
    (fun x => (changes_latch _ x).mono (by simp))

theorem changes_closeZone (n : ZoneIx) (s : State) : ChangesOnly [.track, .reports, .oven, .link] s (closeZone n s) :=
  ((changes_closeRef _ _ s).mono (by simp)).trans ((changes_putOven _ _).mono (by simp))

theorem changes_clearWatch (s : State) : ChangesOnly [.oven] s (clearWatch s) := changes_putOven s _

theorem changes_openSpeed (u : Int) (s : State) : ChangesOnly [.track, .reports, .oven, .link] s (openSpeed u s) :=
  (((changes_insertTag _ _ _ s).mono (by simp)).trans ((changes_putOven _ _).mono (by simp))).andThen _
    (fun x => (changes_latch _ x).mono (by simp))

theorem changes_reopenOven (s : State) : ChangesOnly [.track, .reports, .oven, .link] s (reopenOven s) := by
  have h : ChangesOnly [.track, .reports, .oven, .link] s (openOutZones s) :=
    ChangesOnly.foldl _ (fun t n => changes_openZone n t) _ s
  unfold reopenOven
  split
  · dsimp only
    split
    · split
      · exact h.trans (changes_openSpeed _ _)
      · exact h.trans ((changes_clearWatch _).mono (by simp))
    · exact h
  · exact .refl _ s

/-- What a span owner changes when it opens the spans of its conditions anew (R43). -/
theorem changes_reopen (o : Owner) (s : State) :
    ChangesOnly [.track, .reports, .channels, .stations, .oven, .link] s (reopen o s) := by
  cases o with
  | station k => exact (changes_judgeGap k s).mono (by simp)
  | channel k => exact (changes_judgeAtNip k s).mono (by simp)
  | oven => exact (changes_reopenOven s).mono (by simp)

/-! ### The link -/

theorem changes_transmit (s : State) : ChangesOnly [.link] s (transmit s) := by
  unfold transmit
  split
  · split
    · exact (changes_putNotice s _ _).trans (changes_putLink _ _)
    · exact changes_putLink s _
    · exact .refl _ s
  · exact .refl _ s

theorem changes_offerReply (f : Frame) (body : List Byte) (s : State) : ChangesOnly [.link] s (offerReply f body s) :=
  (changes_putLink s _).trans (changes_transmit _)

theorem changes_countDiscard (c : LinkFault) (s : State) : ChangesOnly [.link] s (countDiscard c s) :=
  (changes_putLink s _).trans (changes_latch _ _)

end Sys2Proof.Machine
end

