-- ==== Sys2Proof/Laws/Operations.lean ====
section
/-! SUPPORT. What the shared operations do, said once: the outcome of a command, latches, trips, the free order, insertion, the
millisecond tick, reports, the gate table, the span judgements, phase slips, open spans, replies, and the taking of a request. -/
namespace Sys2Proof.Machine

/-! ### The outcome of a command -/

@[simp] theorem act_powered {s : State} (f : State → State) (h : s.powered = true) : act s f = .next (f s) := by
  simp [act, h]

@[simp] theorem act_unpowered {s : State} (f : State → State) (h : s.powered = false) : act s f = .next s := by
  simp [act, h]

theorem act_next (s : State) (f : State → State) : ∃ t, act s f = .next t ∧ (t = f s ∨ t = s) := by
  refine ⟨_, rfl, ?_⟩
  split <;> simp

/-! ### Saturating counts -/

theorem satInc_le {n : Nat} (h : n ≤ Config.countLimit) : satInc n ≤ Config.countLimit := by
  unfold satInc; split <;> omega

theorem satInc_of_lt {n : Nat} (h : n < Config.countLimit) : satInc n = n + 1 := by simp [satInc, h]

/-! ### The free order -/

theorem cons_eraseIdx_perm {α : Type} {l : List α} {n : Nat} (h : n < l.length) : (l[n] :: l.eraseIdx n).Perm l := by
  induction l generalizing n with
  | nil => simp at h
  | cons a l ih =>
    cases n with
    | zero => simp
    | succ n =>
      have hn : n < l.length := by simpa using h
      simpa using (List.Perm.swap a l[n] (l.eraseIdx n)).trans ((ih hn).cons a)

theorem permuteAux_perm {α : Type} (n code : Nat) (l : List α) (h : l.length = n) : (permuteAux n code l).Perm l := by
  induction n generalizing code l with
  | zero => simp [permuteAux, List.length_eq_zero_iff.mp h]
  | succ n ih =>
    have hpos : 0 < l.length := by omega
    have hlt : code % l.length < l.length := Nat.mod_lt _ hpos
    simp only [permuteAux, List.getElem?_eq_getElem hlt]
    have hlen : (l.eraseIdx (code % l.length)).length = n := by
      rw [List.length_eraseIdx_of_lt hlt]; omega
    exact ((ih _ _ hlen).cons _).trans (cons_eraseIdx_perm hlt)

/-- A free order is a permutation: every agent acts once. -/
theorem permute_perm {α : Type} (code : Nat) (l : List α) : (permute code l).Perm l := permuteAux_perm _ _ _ rfl

theorem mem_permute {α : Type} {code : Nat} {l : List α} {a : α} : a ∈ permute code l ↔ a ∈ l := (permute_perm code l).mem_iff

/-! ### Latches -/

theorem latch_starting {d : NoticeDetail} {s : State} (h : s.link.state = .starting) : latch d s = s := by
  simp [latch, h]

theorem latch_ready {d : NoticeDetail} {s : State} (h : s.link.state = .ready) :
    latch d s = s.putNotice d.number ((s.notice d.number).latched (some d)) := by simp [latch, h]

theorem latch_notice_other (d : NoticeDetail) (s : State) (n : NoticeNo) (h : n ≠ d.number) :
    (latch d s).notice n = s.notice n := by
  unfold latch; split
  · rfl
  · exact State.putNotice_other s _ n _ h

theorem latch_butNotices (d : NoticeDetail) (s : State) : (latch d s).link.butNotices = s.link.butNotices := by
  unfold latch; split <;> rfl

/-- A latch changes one kind of the notice pending set at most. -/
theorem latch_latchesOnly (d : NoticeDetail) (s : State) : LatchesOnly [d.number] s (latch d s) :=
  ⟨latch_butNotices d s, fun n hn => latch_notice_other d s n (fun e => hn (by simp [e]))⟩

theorem latch_latched {d : NoticeDetail} {s : State} (h : s.link.state = .ready) : Latched d s (latch d s) := by
  rw [latch_ready h]
  simp [Latched, Notice.latched]

@[simp] theorem latch_queue (d : NoticeDetail) (s : State) : (latch d s).link.queue = s.link.queue := by
  unfold latch; split <;> rfl
@[simp] theorem latch_state (d : NoticeDetail) (s : State) : (latch d s).link.state = s.link.state := by
  unfold latch; split <;> rfl
@[simp] theorem latch_restart (d : NoticeDetail) (s : State) : (latch d s).link.restart = s.link.restart := by
  unfold latch; split <;> rfl
@[simp] theorem latch_sending (d : NoticeDetail) (s : State) : (latch d s).link.sending = s.link.sending := by
  unfold latch; split <;> rfl
@[simp] theorem latch_waiting (d : NoticeDetail) (s : State) : (latch d s).link.waiting = s.link.waiting := by
  unfold latch; split <;> rfl
@[simp] theorem latch_receiver (d : NoticeDetail) (s : State) : (latch d s).link.receiver = s.link.receiver := by
  unfold latch; split <;> rfl
@[simp] theorem latch_serviceAccess (d : NoticeDetail) (s : State) :
    (latch d s).link.serviceAccess = s.link.serviceAccess := by unfold latch; split <;> rfl
@[simp] theorem latch_geom (d : NoticeDetail) (s : State) : (latch d s).geom = s.geom := by unfold latch; split <;> rfl
@[simp] theorem latch_web (d : NoticeDetail) (s : State) : (latch d s).web = s.web := by unfold latch; split <;> rfl
@[simp] theorem latch_track (d : NoticeDetail) (s : State) : (latch d s).track = s.track := by unfold latch; split <;> rfl
@[simp] theorem latch_tags (d : NoticeDetail) (s : State) : (latch d s).tags = s.tags := by unfold latch; split <;> rfl
@[simp] theorem latch_reports (d : NoticeDetail) (s : State) : (latch d s).reports = s.reports := by
  unfold latch; split <;> rfl
@[simp] theorem latch_channels (d : NoticeDetail) (s : State) : (latch d s).channels = s.channels := by
  unfold latch; split <;> rfl
@[simp] theorem latch_stations (d : NoticeDetail) (s : State) : (latch d s).stations = s.stations := by
  unfold latch; split <;> rfl
@[simp] theorem latch_slots (d : NoticeDetail) (s : State) : (latch d s).slots = s.slots := by unfold latch; split <;> rfl
@[simp] theorem latch_changeover (d : NoticeDetail) (s : State) : (latch d s).changeover = s.changeover := by
  unfold latch; split <;> rfl
@[simp] theorem latch_oven (d : NoticeDetail) (s : State) : (latch d s).oven = s.oven := by unfold latch; split <;> rfl
@[simp] theorem latch_gov (d : NoticeDetail) (s : State) : (latch d s).gov = s.gov := by unfold latch; split <;> rfl
@[simp] theorem latch_scan (d : NoticeDetail) (s : State) : (latch d s).scan = s.scan := by unfold latch; split <;> rfl
@[simp] theorem latch_freeIx (d : NoticeDetail) (s : State) : (latch d s).freeIx = s.freeIx := by
  unfold latch; split <;> rfl
@[simp] theorem latch_pending (d : NoticeDetail) (s : State) : (latch d s).pending = s.pending := by
  unfold latch; split <;> rfl
@[simp] theorem latch_powered (d : NoticeDetail) (s : State) : (latch d s).powered = s.powered := by
  unfold latch; split <;> rfl
@[simp] theorem latch_station (d : NoticeDetail) (s : State) (k : StationIx) : (latch d s).station k = s.station k := by
  unfold latch; split <;> rfl
@[simp] theorem latch_channel (d : NoticeDetail) (s : State) (k : StationIx) : (latch d s).channel k = s.channel k := by
  unfold latch; split <;> rfl
@[simp] theorem latch_slot (d : NoticeDetail) (s : State) (i : SlotIx) : (latch d s).slot i = s.slot i := by
  unfold latch; split <;> rfl
@[simp] theorem latch_point (d : NoticeDetail) (s : State) (p : PointNo) : (latch d s).point p = s.point p := by
  unfold latch; split <;> rfl

/-! ### Trip requests -/

@[simp] theorem requestTrip_gov (c : TripCause) (s : State) : (requestTrip c s).gov = s.gov.tripped c := by
  unfold requestTrip; split <;> simp

theorem TripSet.has_insert (t : TripSet) (c : TripCause) : (t.insert c).has c = true := by cases c <;> rfl

theorem TripSet.insert_ne_empty (t : TripSet) (c : TripCause) : t.insert c ≠ TripSet.empty := by
  cases c <;> simp [TripSet.insert, TripSet.empty]

/-! ### Sets -/

theorem LiftSet.has_set (r : LiftSet) (x : LiftReason) (b : Bool) : (r.set x b).has x = b := by cases x <;> rfl

theorem LiftSet.isEmpty_iff (r : LiftSet) : r.isEmpty = true ↔ ∀ x, r.has x = false := by
  constructor
  · intro h x
    cases x <;> simp_all [LiftSet.isEmpty, LiftSet.unplanned, LiftSet.has]
  · intro h
    have h1 := h .seam; have h2 := h .operator; have h3 := h .fault; have h4 := h .drive
    have h5 := h .guard; have h6 := h .paste; have h7 := h .jobIdle
    simp_all [LiftSet.isEmpty, LiftSet.unplanned, LiftSet.has]

/-! ### The track -/

theorem placeTag_length (t : Tag) (l : List Tag) : (placeTag t l).length = l.length + 1 := by
  induction l with
  | nil => rfl
  | cons x l ih => simp only [placeTag]; split <;> simp [ih]

theorem mem_placeTag {t x : Tag} {l : List Tag} : x ∈ placeTag t l ↔ x = t ∨ x ∈ l := by
  induction l with
  | nil => simp [placeTag]
  | cons y l ih =>
    simp only [placeTag]; split
    · simp only [List.mem_cons, ih]
      exact ⟨fun h => h.elim (fun h => .inr (.inl h)) (fun h => h.elim .inl (fun h => .inr (.inr h))),
        fun h => h.elim (fun h => .inr (.inl h)) (fun h => h.elim .inl (fun h => .inr (.inr h)))⟩
    · exact List.mem_cons

theorem mapTag_length (n : Nat) (f : Tag → Tag) (l : List Tag) : (mapTag n f l).length = l.length := by simp [mapTag]

theorem dropTag_length_le (n : Nat) (l : List Tag) : (dropTag n l).length ≤ l.length := List.length_filter_le _ _

/-- A full track drops an insertion (R38). -/
theorem insertTag_full {k : TagKind} {u : Int} {e : Option Int} {s : State} (h : Config.trackPlaces ≤ s.tags.length) :
    insertTag k u e s = (dropInsertion k u s, 0) := by
  simp [insertTag, Nat.not_lt.mpr h]

/-- With room, an insertion places its tag under the new id and settles its EXIT crossing (R20, R21). -/
theorem insertTag_room {k : TagKind} {u : Int} {e : Option Int} {s : State} (h : s.tags.length < Config.trackPlaces) :
    insertTag k u e s =
      (settleExit s.newId (placeNew ⟨s.newId, k, u, e, silentIndex s.geom.gates s.web.wmax u⟩ s), s.newId) := by
  simp [insertTag, h]

/-- A rename moves no tag and keeps every coordinate. -/
theorem mapTag_rename_uStart (n h : Nat) (l : List Tag) :
    (mapTag n (fun t => { t with id := h }) l).map (·.uStart) = l.map (·.uStart) := by
  simp only [mapTag, List.map_map]
  exact List.map_congr_left (fun t _ => by simp only [Function.comp]; split <;> rfl)

/-- The ROLL_HEAD takes the place held for it under the next free id, and settles its EXIT crossing (R19, R25). -/
theorem insertHead_eq (s : State) :
    insertHead s = settleExit s.newId (s.putTrack { s.track with
      tags := mapTag 0 (fun t => { t with id := s.newId }) s.tags, nextId := nextNumberAfter s.newId }) := rfl

/-- The place held for a ROLL_HEAD counts as one of the track's 128 (R20, R25). -/
theorem holdHeadPlace_length (roll : RollRecord) (u : Int) (s : State) :
    (holdHeadPlace roll u s).tags.length = s.tags.length + 1 := placeTag_length _ _

/-! ### The millisecond tick (log entry 3) -/

@[simp] theorem Station.ticked_state (x : Station) : x.ticked.state = x.state := rfl
@[simp] theorem Station.ticked_lowerOutput (x : Station) : x.ticked.lowerOutput = x.lowerOutput := rfl
@[simp] theorem Station.ticked_mode (x : Station) : x.ticked.mode = x.mode := rfl
@[simp] theorem Station.ticked_slot (x : Station) : x.ticked.slot = x.slot := rfl
@[simp] theorem Station.ticked_reasons (x : Station) : x.ticked.reasons = x.reasons := rfl
@[simp] theorem Station.ticked_hold (x : Station) : x.ticked.hold = x.hold := rfl
@[simp] theorem Station.ticked_hasPrinted (x : Station) : x.ticked.hasPrinted = x.hasPrinted := rfl
@[simp] theorem Station.ticked_gap (x : Station) : x.ticked.gap = x.gap := rfl
@[simp] theorem Station.ticked_gapPlanned (x : Station) : x.ticked.gapPlanned = x.gapPlanned := rfl
@[simp] theorem Station.ticked_stuckCause (x : Station) : x.ticked.stuckCause = x.stuckCause := rfl
@[simp] theorem Station.ticked_stuckCount (x : Station) : x.ticked.stuckCount = x.stuckCount := rfl
@[simp] theorem Station.ticked_strikeCount (x : Station) : x.ticked.strikeCount = x.strikeCount := rfl
@[simp] theorem Governor.ticked_state (g : Governor) : g.ticked.state = g.state := rfl
@[simp] theorem Governor.ticked_target (g : Governor) : g.ticked.target = g.target := rfl
@[simp] theorem Governor.ticked_limit (g : Governor) : g.ticked.limit = g.limit := rfl
@[simp] theorem Governor.ticked_term (g : Governor) : g.ticked.term = g.term := rfl
@[simp] theorem Governor.ticked_demand (g : Governor) : g.ticked.demand = g.demand := rfl
@[simp] theorem Governor.ticked_direction (g : Governor) : g.ticked.direction = g.direction := rfl
@[simp] theorem Governor.ticked_causes (g : Governor) : g.ticked.causes = g.causes := rfl
@[simp] theorem Governor.ticked_jogDirection (g : Governor) : g.ticked.jogDirection = g.jogDirection := rfl
@[simp] theorem Governor.ticked_reversalPending (g : Governor) : g.ticked.reversalPending = g.reversalPending := rfl
@[simp] theorem Governor.ticked_tripCount (g : Governor) : g.ticked.tripCount = g.tripCount := rfl
@[simp] theorem Governor.ticked_terms (g : Governor) : g.ticked.terms = g.terms := rfl

@[simp] theorem tickTimers_station (s : State) (k : StationIx) : (tickTimers s).station k = (s.station k).ticked := by
  show (s.stations.map _)[k.val] = _
  rw [Vector.getElem_map]; rfl

@[simp] theorem tickTimers_gov (s : State) : (tickTimers s).gov = s.gov.ticked := rfl

/-! ### Reports -/

/-- Without an open report there is nothing to close (R47). -/
theorem closeReport_none {s : State} (u : Int) (c : ClosedBy) (h : s.reports.current = none) : closeReport u c s = s := by
  simp [closeReport, h]

/-- An open report closes under the next number and is offered to the queue (R48, R55). -/
theorem closeReport_some {s : State} {r : OpenReport} (u : Int) (c : ClosedBy) (h : s.reports.current = some r) :
    closeReport u c s = offerReport (closedReport r s.reports.nextNumber u c)
      (s.putReports { s.reports with current := none, nextNumber := nextNumberAfter s.reports.nextNumber }) := by
  simp [closeReport, h]

/-- Without an open report an item is unassigned (R54). -/
theorem addItem_none {s : State} (kind : ItemKind) (a b : Int) (h : s.reports.current = none) :
    addItem kind a b s = s.putReports { s.reports with unassigned := satInc s.reports.unassigned } := by
  simp [addItem, h]

/-! ### The gate table (R10) -/

/-- An insertion adds its gate and no other. -/
theorem insertGate_perm (g : Gate) (l : List Gate) : (insertGate g l).Perm (g :: l) := by
  induction l with
  | nil => exact .refl _
  | cons x l ih =>
    unfold insertGate
    split
    · exact (ih.cons x).trans (.swap g x l)
    · exact .refl _

/-- The gate table holds the gates of the geometry's list, in another order. -/
theorem gateTable_perm (g : GeomRecord) : g.gateTable.Perm g.gateList := by
  have fold : ∀ (l t : List Gate), (l.foldl (fun t x => insertGate x t) t).Perm (l ++ t) := by
    intro l
    induction l with
    | nil => exact fun t => .refl _
    | cons x l ih =>
      exact fun t => (ih _).trans (((insertGate_perm x t).append_left l).trans List.perm_middle)
  simpa [GeomRecord.gateTable] using fold g.gateList []

/-! ### Spans -/

/-- The judgement of a misregister span changes nothing of the channel but its span reference. -/
theorem judgeMisregister_channel (k : StationIx) (u : Int) (s : State) (j : StationIx) :
    ∃ r, (judgeMisregister k u s).channel j = { s.channel j with span := r } := by
  have keep : ∀ {t : State} (r : SpanRef), (∀ i, t.channel i = s.channel i) →
      ∃ r', (t.putChannel k { t.channel k with span := r }).channel j = { s.channel j with span := r' } := by
    intro t r h
    rw [State.putChannel_apply]
    split
    · next e => subst e; exact ⟨r, by rw [h]⟩
    · exact ⟨(s.channel j).span, by rw [h]⟩
  have same : ∀ {t : State}, ChangesOnly [.track, .reports, .link] s t → ∀ i, t.channel i = s.channel i := by
    intro t h i
    have : t.channels = s.channels := h.2.2 .channels (by simp)
    simp [State.channel, this]
  unfold judgeMisregister
  split
  · split
    · exact keep _ (same (changes_insertTag _ _ _ s))
    · exact ⟨_, rfl⟩
  · split
    · exact ⟨_, rfl⟩
    · exact keep _ (same (changes_closeRef _ _ s))

/-! ### Phase slips -/

theorem phaseSlip_unused {k : StationIx} {s : State} (r : Int) (h : (s.channel k).state = .unused) : phaseSlip k r s = s := by
  simp [phaseSlip, h, ChannelState.measuring]

theorem phaseSlip_reference {k : StationIx} {s : State} (r : Int) (h : (s.channel k).state = .reference) :
    phaseSlip k r s =
      latch (.phaseSlip k r) (s.putChannel k { s.channel k with phaseSlips := satInc (s.channel k).phaseSlips }) := by
  simp [phaseSlip, h, ChannelState.measuring]

theorem phaseSlip_measuring {k : StationIx} {s : State} (r : Int) (h : (s.channel k).state.measuring = true) :
    phaseSlip k r s = judgeAtNip k (latch (.phaseSlip k r)
      (s.putChannel k { (s.channel k).toHunt with phaseSlips := satInc (s.channel k).phaseSlips })) := by
  simp [phaseSlip, h]

/-! ### Open spans -/

/-- The tag placed under an id that no tag of the list holds is the one found under that id. -/
theorem findTag_placeTag_self (t : Tag) (l : List Tag) (h : ∀ x ∈ l, x.id ≠ t.id) : findTag t.id (placeTag t l) = some t := by
  induction l with
  | nil => simp [placeTag, findTag]
  | cons x l ih =>
    have hx : (x.id == t.id) = false := by simpa using h x (by simp)
    unfold placeTag
    split
    · simpa [findTag, hx] using ih (fun y hy => h y (by simp [hy]))
    · simp [findTag]

/-- An insertion changes nothing of what stands open under another id. -/
theorem findTag_placeTag_other {t : Tag} {n : Nat} (l : List Tag) (h : t.id ≠ n) : findTag n (placeTag t l) = findTag n l := by
  have ht : (t.id == n) = false := by simpa using h
  induction l with
  | nil => simp [placeTag, findTag, ht]
  | cons x l ih =>
    unfold placeTag
    split
    · simp only [findTag, List.find?_cons]
      split
      · rfl
      · simpa [findTag] using ih
    · simp [findTag, ht]

/-- An open span's EXIT crossing is not due (R29), so its insertion leaves it in the track. -/
theorem settleExit_open {n : Nat} {t : Tag} {s : State} (ht : findTag n s.tags = some t) (ho : t.isOpen = true) :
    settleExit n s = s := by
  have hd : ∀ p, s.nextGateOf t = some ⟨.exit, p⟩ → s.isDue t = false := by
    intro p hp
    simp only [Tag.isOpen, Bool.and_eq_true, Option.isNone_iff_eq_none] at ho
    simp [State.isDue, State.nextDue, hp, crossingDue, ho.1, ho.2]
  unfold settleExit
  rw [ht]
  dsimp only
  split
  · next p hp => simp [hd p hp]
  · rfl

/-! ### A station without SEAM -/

theorem State.stateWithoutSeam_of_unplanned {s : State} {k : StationIx} (h : (s.station k).reasons.unplanned = true) :
    s.stateWithoutSeam k = (s.station k).state := by
  unfold State.stateWithoutSeam
  cases hs : (s.station k).state <;> simp [h]

theorem State.stateWithoutSeam_of_ne_up {s : State} {k : StationIx} (h : (s.station k).state ≠ .up) :
    s.stateWithoutSeam k = (s.station k).state := by
  unfold State.stateWithoutSeam
  cases hs : (s.station k).state <;> simp_all

/-! ### Replies -/

/-- The kind of a reply (R183). -/
@[simp] theorem replyFrame_kind (f : Frame) (body : List Byte) : (replyFrame f body).kind = replyKind f.kind := rfl
@[simp] theorem replyFrame_tag (f : Frame) (body : List Byte) : (replyFrame f body).tag = f.tag := rfl
@[simp] theorem replyFrame_body (f : Frame) (body : List Byte) : (replyFrame f body).body = body := rfl

/-! ### Requests taken at once -/

theorem State.listening_iff (s : State) : s.listening = true ↔
    s.powered = true ∧ s.link.state = .ready ∧ s.link.queue = [] ∧ s.link.restart ≠ .due := by
  unfold State.listening
  cases h : s.link.queue <;> cases s.powered <;> cases s.link.state <;> cases s.link.restart <;> simp

/-- A part that listens takes a request frame the moment it arrives (R181, R182). -/
theorem receiveFrame_listening {s : State} (f : Frame) (h : s.listening = true) :
    receiveFrame f s = takeRequest f (s.putLink { s.link with queue := [f] }) := by
  obtain ⟨-, -, hq, hr⟩ := (State.listening_iff s).mp h
  have hq' : s.link.queue.isEmpty = true := by simp [hq]
  simp only [receiveFrame, hq, takeHead, State.putLink_link, List.length_nil, Config.receivePlaces, List.nil_append,
    List.isEmpty_nil]
  cases h' : s.link.restart <;> simp_all

/-- A request whose own rule answers now: the reply is offered in the state that the rule leaves (R182). -/
theorem takeRequest_answered {f : Frame} {s t : State} {body : List Byte}
    (h : judgeRequest f (s.putLink { s.link with requestsTaken := satInc s.link.requestsTaken }) = (t, some body)) :
    takeRequest f s = offerReply f body t := by
  simp [takeRequest, h]

@[simp] theorem transmit_queue (s : State) : (transmit s).link.queue = s.link.queue := by
  unfold transmit; split
  · split <;> rfl
  · rfl

end Sys2Proof.Machine
end

