-- ==== Sys2Proof/Laws/PerInstr.lean ====
section
/-! SUPPORT. The families of per-command lemmas, one lemma per constructor of `Instr`.  FrameFits: the frame of a well-formed
command has a body that the line can carry (R178). -/
namespace Sys2Proof.Laws.FrameFits

/-- The frame of a well-formed command, if it has one, has a body of at most 480 bytes. -/
def Statement (i : Instr) : Prop :=
  i.wellFormed = true → ∀ f, commandFrame i = some f → f.body.length ≤ Config.largestBody

theorem bodyFits_length {body : List Byte} (h : bodyFits body = true) : body.length ≤ Config.largestBody := by
  simpa [bodyFits] using h

theorem powerOn (strap : Fin 4) : Statement (.powerOn strap) :=
  fun _ f e => by cases e
theorem resetInput (strap : Fin 4) : Statement (.resetInput strap) :=
  fun _ f e => by cases e
theorem settingsStoreRead : Statement (.settingsStoreRead) :=
  fun _ f e => by cases e
theorem endOfStarting : Statement (.endOfStarting) :=
  fun _ f e => by cases e
theorem sweep (samples : BitVec 128) : Statement (.sweep samples) :=
  fun _ f e => by cases e
theorem encoderCount (dir : Direction) : Statement (.encoderCount dir) :=
  fun _ f e => by cases e
theorem seamDetection : Statement (.seamDetection) :=
  fun _ f e => by cases e
theorem markDetection (k : StationIx) : Statement (.markDetection k) :=
  fun _ f e => by cases e
theorem screenEncoderCount (k : StationIx) (dir : Direction) : Statement (.screenEncoderCount k dir) :=
  fun _ f e => by cases e
theorem indexPulse (k : StationIx) : Statement (.indexPulse k) :=
  fun _ f e => by cases e
theorem trimDone (k : StationIx) (number : Byte) : Statement (.trimDone k number) :=
  fun _ f e => by cases e
theorem trimTimeout (k : StationIx) : Statement (.trimTimeout k) :=
  fun _ f e => by cases e
theorem lowerTimeout (k : StationIx) : Statement (.lowerTimeout k) :=
  fun _ f e => by cases e
theorem raiseTimeout (k : StationIx) : Statement (.raiseTimeout k) :=
  fun _ f e => by cases e
theorem speedRecompute : Statement (.speedRecompute) :=
  fun _ f e => by cases e
theorem haltDwellExpiry : Statement (.haltDwellExpiry) :=
  fun _ f e => by cases e
theorem persistenceExpiry : Statement (.persistenceExpiry) :=
  fun _ f e => by cases e
theorem governorUpdate : Statement (.governorUpdate) :=
  fun _ f e => by cases e
theorem jogTimerExpiry : Statement (.jogTimerExpiry) :=
  fun _ f e => by cases e
theorem lengthError : Statement (.lengthError) :=
  fun _ f e => by cases e
theorem gapTimeout : Statement (.gapTimeout) :=
  fun _ f e => by cases e
theorem frameReceived : Statement (.frameReceived) :=
  fun _ f e => by cases e
theorem noticeFrameSend : Statement (.noticeFrameSend) :=
  fun _ f e => by cases e
theorem unknownKind (kind : Byte) (tag : Byte) (body : List Byte) : Statement (.unknownKind kind tag body) :=
  fun h f e => by
    cases e
    exact bodyFits_length (Bool.and_eq_true_iff.mp h).2
theorem identify (tag : Byte) (body : List Byte) : Statement (.identify tag body) :=
  fun h f e => by
    cases e
    exact bodyFits_length h
theorem getStatus (tag : Byte) (body : List Byte) : Statement (.getStatus tag body) :=
  fun h f e => by
    cases e
    exact bodyFits_length h
theorem setGeometry (tag : Byte) (body : List Byte) : Statement (.setGeometry tag body) :=
  fun h f e => by
    cases e
    exact bodyFits_length h
theorem getGeometry (tag : Byte) (body : List Byte) : Statement (.getGeometry tag body) :=
  fun h f e => by
    cases e
    exact bodyFits_length (Bool.and_eq_true_iff.mp h).2
theorem getGateTable (tag : Byte) : Statement (.getGateTable tag) :=
  fun _ f e => by cases e; simp [requestFrame, Config.largestBody]
theorem saveGeometry (tag : Byte) (body : List Byte) : Statement (.saveGeometry tag body) :=
  fun h f e => by
    cases e
    exact bodyFits_length h
theorem saveGeometryComplete : Statement (.saveGeometryComplete) :=
  fun _ f e => by cases e
theorem loadJob (tag : Byte) (body : List Byte) : Statement (.loadJob tag body) :=
  fun h f e => by
    cases e
    exact bodyFits_length h
theorem readJob (tag : Byte) (body : List Byte) : Statement (.readJob tag body) :=
  fun h f e => by
    cases e
    exact bodyFits_length h
theorem startJob (tag : Byte) (body : List Byte) : Statement (.startJob tag body) :=
  fun h f e => by
    cases e
    exact bodyFits_length h
theorem endJob (tag : Byte) (body : List Byte) : Statement (.endJob tag body) :=
  fun h f e => by
    cases e
    exact bodyFits_length h
theorem stageJob (tag : Byte) (body : List Byte) : Statement (.stageJob tag body) :=
  fun h f e => by
    cases e
    exact bodyFits_length h
theorem cancelStage (tag : Byte) (body : List Byte) : Statement (.cancelStage tag body) :=
  fun h f e => by
    cases e
    exact bodyFits_length h
theorem setSpeedTarget (tag : Byte) (body : List Byte) : Statement (.setSpeedTarget tag body) :=
  fun h f e => by
    cases e
    exact bodyFits_length h
theorem run (tag : Byte) (body : List Byte) : Statement (.run tag body) :=
  fun h f e => by
    cases e
    exact bodyFits_length h
theorem halt (tag : Byte) (body : List Byte) : Statement (.halt tag body) :=
  fun h f e => by
    cases e
    exact bodyFits_length h
theorem jog (tag : Byte) (body : List Byte) : Statement (.jog tag body) :=
  fun h f e => by
    cases e
    exact bodyFits_length h
theorem clearTrip (tag : Byte) (body : List Byte) : Statement (.clearTrip tag body) :=
  fun h f e => by
    cases e
    exact bodyFits_length h
theorem liftStation (tag : Byte) (body : List Byte) : Statement (.liftStation tag body) :=
  fun h f e => by
    cases e
    exact bodyFits_length h
theorem lowerStation (tag : Byte) (body : List Byte) : Statement (.lowerStation tag body) :=
  fun h f e => by
    cases e
    exact bodyFits_length h
theorem clearStationFault (tag : Byte) (body : List Byte) : Statement (.clearStationFault tag body) :=
  fun h f e => by
    cases e
    exact bodyFits_length h
theorem getStation (tag : Byte) (body : List Byte) : Statement (.getStation tag body) :=
  fun h f e => by
    cases e
    exact bodyFits_length h
theorem declareRollQueue (tag : Byte) (body : List Byte) : Statement (.declareRollQueue tag body) :=
  fun h f e => by
    cases e
    exact bodyFits_length (Bool.and_eq_true_iff.mp h).2
theorem declareRollHere (tag : Byte) (fields : List Byte) : Statement (.declareRollHere tag fields) :=
  fun h f e => by
    cases e
    exact bodyFits_length h
theorem insertMarker (tag : Byte) (body : List Byte) : Statement (.insertMarker tag body) :=
  fun h f e => by
    cases e
    exact bodyFits_length h
theorem readTrack (tag : Byte) (body : List Byte) : Statement (.readTrack tag body) :=
  fun h f e => by
    cases e
    exact bodyFits_length h
theorem trackReset (tag : Byte) (body : List Byte) : Statement (.trackReset tag body) :=
  fun h f e => by
    cases e
    exact bodyFits_length h
theorem fetchRollReport (tag : Byte) (body : List Byte) : Statement (.fetchRollReport tag body) :=
  fun h f e => by
    cases e
    exact bodyFits_length h
theorem armGroup (tag : Byte) (body : List Byte) : Statement (.armGroup tag body) :=
  fun h f e => by
    cases e
    exact bodyFits_length h
theorem disarmGroup (tag : Byte) (body : List Byte) : Statement (.disarmGroup tag body) :=
  fun h f e => by
    cases e
    exact bodyFits_length h
theorem readPoint (tag : Byte) (body : List Byte) : Statement (.readPoint tag body) :=
  fun h f e => by
    cases e
    exact bodyFits_length h
theorem census (tag : Byte) (body : List Byte) : Statement (.census tag body) :=
  fun h f e => by
    cases e
    exact bodyFits_length h
theorem fetchChanges (tag : Byte) (body : List Byte) : Statement (.fetchChanges tag body) :=
  fun h f e => by
    cases e
    exact bodyFits_length h
theorem subscribe (tag : Byte) (body : List Byte) : Statement (.subscribe tag body) :=
  fun h f e => by
    cases e
    exact bodyFits_length h
theorem acknowledgeNotices (tag : Byte) (body : List Byte) : Statement (.acknowledgeNotices tag body) :=
  fun h f e => by
    cases e
    exact bodyFits_length h
theorem restart (tag : Byte) (body : List Byte) : Statement (.restart tag body) :=
  fun h f e => by
    cases e
    exact bodyFits_length h
theorem restartTakesEffect (strap : Fin 4) : Statement (.restartTakesEffect strap) :=
  fun _ f e => by cases e
theorem byteReceived (b : Byte) : Statement (.byteReceived b) :=
  fun _ f e => by cases e
theorem frameSent : Statement (.frameSent) :=
  fun _ f e => by cases e
theorem powerFail : Statement (.powerFail) :=
  fun _ f e => by cases e

end Sys2Proof.Laws.FrameFits
end

