-- ==== Sys2Proof/Tests/Slice0.lean ====
section
/-! SUPPORT. The model's own tests: the smoke test of the well-formedness checks, the manual's worked examples, and for every
obligation with hypotheses a state and operands that meet them, at the boundary values of its clauses. -/
set_option Elab.async false

namespace Sys2Proof.Tests
open Sys2Proof.Machine

/-! ### States the tests build on -/

/-- The station entries of the three-station line of section 1.4; the fields that the example does not give are in range. -/
def stationEntry (markPos nipPos liftLead : Nat) : GeomStation := ⟨markPos, nipPos, liftLead, 400, 4096, 500, 500, 100⟩

/-- The three-station line of section 1.4. -/
def line3 : GeomRecord where
  installed := 3
  encoderScale := 250
  holdOffMm := 500
  allowanceMm := 500
  ovenIn := 20000000
  zoneCount := 2
  zoneEnds := #v[50000000, 80000000, 0, 0, 0, 0, 0, 0]
  exitPos := 90000000
  debounceStation := 3
  debounceLine := 4
  acceleration := 500
  deceleration := 500
  tripDeceleration := 1500
  jogSpeed := 500
  stations := Vector.ofFn fun k =>
    if k.val = 0 then stationEntry 9000000 10000000 600
    else if k.val = 1 then stationEntry 11000000 12000000 1600
    else if k.val = 2 then stationEntry 13000000 14000000 600
    else stationEntry 0 0 0

/-- A part in READY without a geometry. -/
def ready : State := State.reset.putLink { State.reset.link with state := .ready }

/-- A part in READY with the three-station line working and nothing stored. -/
def valid : State := ready.putGeom ⟨some line3, false, line3.gateTable, StoreCopy.erased, none, true⟩

/-- A job on `valid`: station 1 is the reference, stations 2 and 3 print. -/
def jobA : Job where
  id := 205
  rpt := 640000
  reference := 0
  gain := 8
  deadBand := 50
  trimLimit := 300
  window := 5000
  missLimit := 3
  huntSpeed := 1500
  maxSpeed := 5000
  dwell := 900
  haltDwell := 200
  entries := Vector.ofFn fun k => ⟨if k.val < 3 then .print else .off, -2000, 0, 200, false⟩

def webAt (s : State) (w wmax deficit : Nat) : State := s.putWeb { s.web with w := w, wmax := wmax, deficit := deficit }
def govAt (s : State) (g : GovState) (demand : Nat) : State := s.putGov { s.gov with state := g, demand := demand }
def pointsAs (s : State) (p : PointNo → Point) : State := s.putScan { s.scan with points := Vector.ofFn p }

/-- A point that stands debounced and stored. -/
def standing (b : Bool) : Point := ⟨b, b, none, 0, b, false⟩

/-- Every point true but the paste points of the stations; DOWN stands true for the first `n` stations, UP for the others. -/
def goodPoints (n : Nat) (s : State) : State :=
  pointsAs s (fun p => standing
    (if 96 ≤ p.val then true
     else if p.val % 6 = 0 then p.val / 6 < n
     else if p.val % 6 = 1 then n ≤ p.val / 6
     else p.val % 6 < 4))

/-- `valid` with job A active in slot 1, its stations under it, and good points. -/
def working : State :=
  ((goodPoints 3 valid).putStations
    (Vector.ofFn fun k => { Station.start with
      mode := jobA.entries[k].mode, slot := some 0, reasons := LiftSet.onlyJobIdle.forMode jobA.entries[k].mode
      state := if k.val < 3 then .down else .up, lowerOutput := k.val < 3, hasPrinted := k.val < 3 })).putSlot 0 (.active jobA)

/-- The state after a command. -/
def after (c : Instr) (s : State) : State :=
  match exec c s with
  | .next t => t
  | .fault _ => s
  | .refused _ => s

/-- The body of the reply on the line. -/
def replyOf (s : State) : List Byte :=
  match s.link.sending with
  | some (.reply f) => f.body
  | _ => []

/-! ### WellFormed refuses an ill-formed term of each check -/

theorem test_wellFormed_unknownKind_request_kind : (Instr.unknownKind 0x19 0 []).wellFormed = false := by decide
theorem test_wellFormed_unknownKind_good : (Instr.unknownKind 0x7F 0 [1]).wellFormed = true := by decide
theorem test_wellFormed_getGeometry_of_other_row : (Instr.getGeometry 0 [0x01]).wellFormed = false := by decide
theorem test_wellFormed_declareRollQueue_of_other_row :
    (Instr.declareRollQueue 0 [0x01, 0, 0, 0, 0, 0, 0]).wellFormed = false := by decide
theorem test_wellFormed_body_too_long : (Instr.run 0 (List.replicate 481 0)).wellFormed = false := by decide +kernel
theorem test_wellFormed_body_longest : (Instr.run 0 (List.replicate 480 0)).wellFormed = true := by decide +kernel
theorem test_wellFormed_declareRollHere_too_long : (Instr.declareRollHere 0 (List.replicate 480 0)).wellFormed = false := by
  decide +kernel

/-! ### The manual's worked examples -/

/-- Section 1.4: the gate table of the three-station line. -/
theorem test_gate_table_three_stations :
    line3.gateTable =
      [⟨.lift 0, 9400000⟩, ⟨.nip 0, 10000000⟩, ⟨.clear 0, 10400000⟩, ⟨.lift 1, 10400000⟩, ⟨.nip 1, 12000000⟩,
       ⟨.clear 1, 12400000⟩, ⟨.lift 2, 13400000⟩, ⟨.nip 2, 14000000⟩, ⟨.clear 2, 14400000⟩, ⟨.ovenIn, 20000000⟩,
       ⟨.ovenOut, 80000000⟩, ⟨.exit, 90000000⟩] := by decide +kernel

theorem test_three_stations_pass_the_checks : line3.rangesHold = true ∧ line3.blamed = [] := by decide +kernel

/-- Section 4.5: the worked case, with the negative stretch, the wrap and the half repeat. -/
theorem test_register_worked_case :
    predictedPhase 640000 287968 350000 150 = 638493 ∧ registerError 640000 638493 (-2000) = 493
      ∧ trimValue 493 8 300 = -247 := by decide
theorem test_register_limits :
    (350000 * (-7) / 100000 : Int) = -25 ∧ registerError 640000 5000 630000 = 15000 ∧ trimValue 15000 8 300 = -300
      ∧ registerError 640000 0 320000 = 320000 ∧ trimValue 320000 8 300 = -300 := by decide

/-- R115: offsets wrapped into (-R/2, R/2]. -/
theorem test_offset_wraps : wrapOffset 640000 330000 = -310000 ∧ wrapOffset 640000 (-320000) = 320000 := by decide

/-- Sections 7.2 and 7.8: cure limits and thresholds. -/
theorem test_cure_limits :
    cureLimitOf 60000000 900 = 4000 ∧ thresholdOf 4000 = 4080 ∧ cureLimitOf 60000000 1200 = 3000 ∧ thresholdOf 3000 = 3060
      ∧ cureLimitOf 1500000 6000 = 15 ∧ cureLimitOf 500000 6000 = 5 ∧ cureLimitOf 200000000 100 = 20000 := by decide

/-- Section 9.2: a contact that bounces is proved at the sixth sweep. -/
theorem test_debounce_bounce :
    ([true, true, false, true, true].foldl (fun (x : Point) b => x.advanced b 3) (standing false)).debounced = false
      ∧ ([true, true, false, true, true, true].foldl (fun (x : Point) b => x.advanced b 3) (standing false)).debounced
          = true := by decide

/-- The published check value of this CRC (polynomial 0x1021, initial value 0xFFFF, no reflection): "123456789". -/
theorem test_crc_check_value : crc16 [0x31, 0x32, 0x33, 0x34, 0x35, 0x36, 0x37, 0x38, 0x39] = 0x29B1 := by decide +kernel

/-- Section 8.2: an acceleration of 500 gives a step of 5; the smallest rate gives 1. -/
theorem test_governor_step : stepOf 500 = 5 ∧ stepOf 10 = 1 ∧ stepOf 2000 = 20 := by decide

/-! ### One step of a few commands -/

/-- R11: a reverse count below W = 0 leaves a deficit, and a forward count cancels it first. -/
theorem test_reverse_then_forward_deficit :
    (after (.encoderCount .reverse) (webAt valid 100 100 0)).web.deficit = 150
      ∧ (WebMeasure.forward { State.reset.web with deficit := 150, wmax := 100 } 250).w = 100 := by decide +kernel

/-- R16: a detection at the hold-off is taken, one µm before it is ignored. -/
theorem test_seam_hold_off :
    ((webAt valid 500000 500000 0).putWeb
        { (webAt valid 500000 500000 0).web with lastSeam := some 0 }).seamAccepted = true
      ∧ ((webAt valid 499999 499999 0).putWeb
        { (webAt valid 499999 499999 0).web with lastSeam := some 0 }).seamAccepted = false := by decide +kernel

/-- `working` with LIFT_1 at the entry, and W at 500,000. -/
def liftAtEntry : State :=
  webAt (working.putGeom { working.geom with gates := ⟨.lift 0, 0⟩ :: line3.gateTable.drop 1 }) 500000 500000 0

/-- R21, R25: the SEAM's LIFT crossing at the entry opens the print gap before the ROLL_HEAD is inserted. -/
theorem test_seam_at_entry_opens_its_gap_before_the_head :
    (after .seamDetection liftAtEntry).tags.map (fun t => (t.id, t.kind)) =
      [(2, .printGap 0 true), (1, .seam none), (3, .rollHead ⟨0, 0, 205⟩)] := by decide +kernel

/-- R182, R195: an unknown kind is answered UNKNOWN_KIND with the tag, in a reply whose kind is 0xFF above 0x7F. -/
theorem test_unknown_kind_answered :
    (after (.unknownKind 0x7F 9 [1]) ready).link.sending = some (.reply ⟨0xFF, 9, [0x02]⟩)
      ∧ (after (.unknownKind 0x80 9 []) ready).link.sending = some (.reply ⟨0xFF, 9, [0x02]⟩) := by decide +kernel

/-- R151: a Run with good points starts the governor; without a job it is refused. -/
theorem test_run : (after (.run 1 []) working).gov.state = .run ∧ replyOf (after (.run 1 []) (goodPoints 0 valid)) = [0x09] := by
  decide +kernel

/-- R152: a target above 20,000 is clamped, and the reply says so. -/
theorem test_set_speed_target : replyOf (after (.setSpeedTarget 1 [0x4E, 0x21]) working) = [0, 0x4E, 0x20, 1, 0, 0, 5] := by
  decide +kernel

/-- R109: a Lift Station on a DOWN station raises it. -/
theorem test_lift_station :
    ((after (.liftStation 1 [2]) working).station 1).state = .raising
      ∧ ((after (.liftStation 1 [2]) working).station 1).lowerOutput = false := by decide +kernel

/-- R174: an empty change queue is answered EMPTY. -/
theorem test_fetch_changes_empty : replyOf (after (.fetchChanges 1 []) ready) = [0x11, 0, 0, 0] := by decide +kernel

/-- R179: HUNT passes over a byte that is no start byte; 0xA5 opens a frame. -/
theorem test_receiver : (after (.byteReceived 0x41) ready).link.receiver = none
    ∧ (after (.byteReceived 0xA5) ready).link.receiver = some ⟨[], 0⟩ := by decide +kernel

theorem valid_geom : valid.geom = ⟨some line3, false, line3.gateTable, StoreCopy.erased, none, true⟩ := rfl
theorem geometryInv_valid : GeometryInv valid := by
  unfold GeometryInv
  rw [valid_geom]
  exact ⟨test_three_stations_pass_the_checks.1, test_three_stations_pass_the_checks.2, by dsimp only⟩

theorem trackInv_reset : TrackInv State.reset := by unfold TrackInv; decide +kernel

/-! ### Witnesses: lifecycle -/

theorem witness_StepTakesFrontCommand : State.reset.pending = [] := by decide
theorem witness_EveryCommandCompletes :
    (State.reset.putPowered false).powered = false ∧ ∀ strap, Instr.governorUpdate ≠ .powerOn strap := by
  refine ⟨rfl, ?_⟩
  intro strap h
  cases h

/-- A part whose Restart is due, and one whose Restart is not. -/
theorem witness_StartsAndPowerLoss :
    let due := ready.putLink { ready.link with restart := .due }
    due.powered = true ∧ due.link.restart = .due ∧ ready.powered = true ∧ ready.link.restart ≠ .due := by decide

theorem geometryBytes_length_line3 : (geometryBytes line3).length = 410 := by decide +kernel
theorem readGeometry_line3 : readGeometry (geometryBytes line3) = line3 := by decide +kernel

/-- The store that holds the three-station line is good. -/
theorem store_of_line3_good : (storeImage line3).good = some line3 := by
  have h1 : (geometryBytes line3 ++ crcBytes (geometryBytes line3)).take 410 = geometryBytes line3 := by
    rw [← geometryBytes_length_line3]; exact List.take_left
  have h2 : (geometryBytes line3 ++ crcBytes (geometryBytes line3)).drop 410 = crcBytes (geometryBytes line3) := by
    rw [← geometryBytes_length_line3]; exact List.drop_left
  simp only [storeImage, StoreCopy.good, h1, h2, readGeometry_line3, geometryBytes_length_line3]
  simp [test_three_stations_pass_the_checks]

theorem witness_SettingsStoreReadTaken :
    let s := State.reset.putGeom { State.reset.geom with stored := storeImage line3 }
    let t := State.reset.putGeom { State.reset.geom with stored := .torn }
    (s.powered = true ∧ s.link.state = .starting ∧ s.geom.storeRead = false ∧ s.geom.stored.good = some line3)
      ∧ (t.powered = true ∧ t.link.state = .starting ∧ t.geom.storeRead = false ∧ t.geom.stored.good = none) :=
  ⟨⟨rfl, rfl, rfl, store_of_line3_good⟩, rfl, rfl, rfl, rfl⟩

/-- STARTING is over with ESTOP true and stations installed, and with ESTOP false. -/
theorem witness_StartingEnds :
    let s := (goodPoints 0 valid).putLink State.reset.link
    let s := s.putScan { s.scan with swept := true }
    let t := (s.putGeom { s.geom with storeRead := true }).putPoint estopPoint (standing false)
    (s.powered = true ∧ s.startingOver = true ∧ s.debounced estopPoint = true ∧ s.installed 2 = true)
      ∧ (t.powered = true ∧ t.startingOver = true ∧ t.debounced estopPoint = false) := by decide +kernel

/-- Three stations in UP under JOB_IDLE at the end of STARTING: with both end points true, with neither, and with UP alone. -/
theorem witness_StartingEnds_points :
    let s := (goodPoints 0 valid).putLink State.reset.link
    let s := ((s.putScan { s.scan with swept := true }).putPoint (stationPoint 0 0) (standing true)).putPoint (stationPoint 1 1)
      (standing false)
    s.powered = true ∧ s.startingOver = true ∧ (∀ k, (s.station k).state = .up ∧ (s.station k).reasons.jobIdle = true)
      ∧ (s.installed 0 = true ∧ s.upTrue 0 = true ∧ s.downTrue 0 = true) ∧ (s.installed 1 = true ∧ s.upTrue 1 = false)
      ∧ (s.installed 2 = true ∧ s.upTrue 2 = true ∧ s.downTrue 2 = false) := by decide +kernel

/-! ### Witnesses: sweep, web measure, seams -/

/-- The first sweep; and a later one over a point at its debounced state, one with its last equal sample, one before it. -/
theorem witness_SweepsDebounceEveryPoint :
    (State.reset.powered = true ∧ State.reset.link.state = .starting ∧ State.reset.scan.swept = false)
      ∧ (let s := (ready.putScan { ready.scan with swept := true }).putPoint 5 ⟨true, false, some true, 3, false, false⟩
         let s := s.putPoint 6 ⟨true, false, some true, 2, false, false⟩
         s.powered = true ∧ s.link.state = .ready ∧ s.scan.swept = true
          ∧ ((0x60 : BitVec 128).getLsbD 4 = (s.point 4).debounced)
          ∧ ((0x60 : BitVec 128).getLsbD 5 ≠ (s.point 5).debounced ∧ s.debounceCount (groupOfPoint 5) ≤ (s.point 5).stable + 1)
          ∧ ((0x60 : BitVec 128).getLsbD 6 ≠ (s.point 6).debounced ∧ (s.point 6).stable + 1 < s.debounceCount (groupOfPoint 6)))
      := by decide +kernel

/-- A later sweep in STARTING. -/
theorem witness_SweepsDebounceEveryPoint_starting :
    let s := State.reset.putScan { State.reset.scan with swept := true }
    s.powered = true ∧ s.link.state = .starting ∧ s.scan.swept = true := by decide

/-- The points of `ready` armed and standing, with `n` records in the queue and point 5 marked unreported or not. -/
def armedWith (n : Nat) (marked : Bool) : State :=
  (ready.putScan { ready.scan with
    swept := true, armed := Vector.replicate 20 true, queue := List.replicate n ⟨1, true, 3, 4, false⟩ }).putPoint 5
      ⟨false, false, none, 0, marked, marked⟩

/-- R169, R170: one place left and none, with no point marked; a marked point with two places left. -/
theorem witness_SweepsDebounceEveryPoint_records :
    ((∀ p, ((armedWith 31 false).point p).unreported = false) ∧ (armedWith 31 false).scan.queue.length = 31)
      ∧ 32 ≤ (armedWith 32 false).scan.queue.length
      ∧ (let s := armedWith 30 true
         let t := after (.sweep 0) s
         s.scan.queue.length + (s.owedChanges t).length < 32
          ∧ s.scan.queue.length + (s.owedChanges t).length + (s.freshChanges t).length ≤ 32 ∧ s.owedChanges t = [5]) := by
  decide +kernel

theorem scannerInv_armed : ScannerInv (armedWith 31 false) ∧ ScannerInv (armedWith 30 true) := by
  unfold ScannerInv; decide +kernel

/-- Supervision operating over zone 2 alone, whose point stands as given and needs one more equal sample to change. -/
def zoneTwoTurns (stands : Bool) (held : SpanRef) : State :=
  ((goodPoints 3 valid).putScan { (goodPoints 3 valid).scan with swept := true }).putPoint (zonePoint 1)
      ⟨stands, stands, some (!stands), 14, stands, false⟩
    |>.putOven { Oven.start with operating := true, zoneSpans := (Vector.replicate 8 .none).set 1 held }

/-- An open span of zone 2 at EXIT. -/
def zoneTwoSpan : Tag := ⟨9, .undercure (.zone 1), -80000000, none, 11⟩

/-- The samples of `goodPoints 3` with zone 2's as given. -/
def goodSamples (zoneTwo : Bool) : BitVec 128 :=
  BitVec.ofNat 128 ((List.finRange 128).foldl (fun n p =>
    if p = zonePoint 1 then (if zoneTwo then n + 2 ^ p.val else n)
    else if (goodPoints 3 valid).debounced p then n + 2 ^ p.val else n) 0)

/-- R137, R138: a fall of zone 2's band alone with no span held, and a rise alone with the span held whose EXIT crossing is not due. -/
theorem witness_SweepsDebounceEveryPoint_zone :
    (let s := zoneTwoTurns true .none
     let t := after (.sweep (goodSamples false)) s
     (1 : ZoneIx) ∈ s.zones ∧ s.oven.operating = true ∧ s.debounced (zonePoint 1) = true ∧ t.debounced (zonePoint 1) = false
      ∧ s.oven.zoneSpans[1] = .none ∧ s.tags.length < 128 ∧ ∀ p, p ≠ zonePoint 1 → t.debounced p = s.debounced p)
      ∧ (let s := (zoneTwoTurns false (.id 9)).putTags [zoneTwoSpan]
         let t := after (.sweep (goodSamples true)) s
         s.debounced (zonePoint 1) = false ∧ t.debounced (zonePoint 1) = true ∧ s.oven.zoneSpans[1] = .id 9
          ∧ findTag 9 s.tags = some zoneTwoSpan ∧ zoneTwoSpan.isOpen = true
          ∧ (s.web.wmax : Int) < max zoneTwoSpan.uStart (s.front - s.zoneEntry 1) + s.geo (·.exitPos)
          ∧ ∀ p, p ≠ zonePoint 1 → t.debounced p = s.debounced p) := by decide +kernel

theorem invariants_zoneTwo :
    GeometryInv (zoneTwoTurns true .none) ∧ GeometryInv ((zoneTwoTurns false (.id 9)).putTags [zoneTwoSpan])
      ∧ TrackInv (zoneTwoTurns true .none) ∧ TrackInv ((zoneTwoTurns false (.id 9)).putTags [zoneTwoSpan]) :=
  ⟨geometryInv_valid, geometryInv_valid, by unfold TrackInv; decide +kernel, by unfold TrackInv; decide +kernel⟩

/-- The state with the point p one equal sample away from its other state. -/
def pointTurns (s : State) (p : PointNo) : State :=
  (s.putScan { s.scan with swept := true }).putPoint p ⟨s.debounced p, s.debounced p, some (!s.debounced p), 14, s.debounced p, false⟩

/-- Samples at the debounced states of s, but for the point p. -/
def samplesTurning (s : State) (p : PointNo) : BitVec 128 :=
  BitVec.ofNat 128 ((List.finRange 128).foldl (fun n q =>
    if s.debounced q != decide (q = p) then n + 2 ^ q.val else n) 0)

/-- Station 1 of `working` in the given state with the given end points, with OPERATOR in its set or an empty set. -/
def endsAt (x : StationState) (down up held : Bool) : State :=
  ((working.putStation 0 { working.station 0 with
    state := x, lowerOutput := x == .down || x == .lowering, reasons := { LiftSet.onlyJobIdle with jobIdle := false, operator := held } }).putPoint
      (stationPoint 0 0) (standing down)).putPoint (stationPoint 0 1) (standing up)

/-- R95, R98: DOWN alone changes at a station in LOWERING, in DOWN, between its ends and with UP true. -/
theorem witness_SweepsDebounceEveryPoint_down :
    ∀ c ∈ [endsAt .lowering false false false, endsAt .down true false false, endsAt .raising false false true,
        endsAt .down false true false],
      let s := pointTurns c (stationPoint 0 0)
      let t := after (.sweep (samplesTurning c (stationPoint 0 0))) s
      s.powered = true ∧ s.link.state = .ready ∧ s.scan.swept = true ∧ s.installed 0 = true
        ∧ s.changesAlone t (stationPoint 0 0) ∧ t.debounced (stationPoint 0 0) = !c.debounced (stationPoint 0 0)
        ∧ t.debounced (stationPoint 0 1) = c.debounced (stationPoint 0 1) := by
  unfold State.changesAlone; decide +kernel

/-- R93, R95, R98: UP alone changes at a station in RAISING with a reason and without one, in UP, and between its ends. -/
theorem witness_SweepsDebounceEveryPoint_up :
    ∀ c ∈ [endsAt .raising false false true, endsAt .raising false false false, endsAt .up false true true,
        endsAt .lowering true true false],
      let s := pointTurns c (stationPoint 0 1)
      let t := after (.sweep (samplesTurning c (stationPoint 0 1))) s
      s.installed 0 = true ∧ s.changesAlone t (stationPoint 0 1) ∧ t.debounced (stationPoint 0 1) = !c.debounced (stationPoint 0 1)
        ∧ t.debounced (stationPoint 0 0) = c.debounced (stationPoint 0 0) := by
  unfold State.changesAlone; decide +kernel

/-- R91, R92, R108, R157: DRIVE_READY, GUARD_CLOSED and MAIN_DRIVE_READY fall alone in RUN, PASTE_LOW and PASTE_EMPTY rise. -/
theorem witness_SweepsDebounceEveryPoint_trips :
    ∀ p ∈ [stationPoint 0 2, stationPoint 0 3, stationPoint 0 4, stationPoint 0 5, mainDrivePoint],
      let c := govAt working .run 5
      let s := pointTurns c p
      let t := after (.sweep (samplesTurning c p)) s
      s.changesAlone t p ∧ s.gov.state = .run ∧ (s.station 0).state = .down
        ∧ (p = stationPoint 0 2 ∨ p = stationPoint 0 3 ∨ p = stationPoint 0 5 → (t.station 0).reasons.isEmpty = false) := by
  unfold State.changesAlone; decide +kernel

/-- R95, R104: the print gap that DOWN's rise closes; R103: room for the one that DOWN's fall opens. -/
theorem witness_SweepsDebounceEveryPoint_gap :
    let z : Tag := ⟨9, .printGap 0 true, -12000000, none, 11⟩
    let c := endsAt .lowering false false false
    let s := (c.putStation 0 { c.station 0 with gap := .id 9 }).putTags [z]
    let d := endsAt .down true false false
    (TrackInv s ∧ (s.station 0).gap = .id 9 ∧ findTag 9 s.tags = some z ∧ z.isOpen = true
        ∧ (s.web.wmax : Int) < max z.uStart (s.front - s.nip 0) + s.geo (·.exitPos))
      ∧ (TrackInv d ∧ (d.station 0).mode = .print ∧ (d.station 0).hasPrinted = true ∧ (d.station 0).gap = .none
        ∧ d.tags.length < 128 ∧ (d.channel 0).span ≠ .id d.newId) := by
  unfold TrackInv; decide +kernel

/-- A discarded count; forward counts over a deficit, up to the counter limit and one past it; reverse counts to W = 0 and one
past it. -/
theorem witness_EncoderCountMovesTheWeb :
    ready.geom.working = none ∧ valid.powered = true ∧ valid.geom.working = some line3
      ∧ 0 < (webAt valid 0 100 1).web.deficit
      ∧ (webAt valid 281474976710405 281474976710405 0).web.w + line3.encoderScale ≤ 281474976710655
      ∧ 281474976710655 < (webAt valid 281474976710406 281474976710406 0).web.w + line3.encoderScale
      ∧ line3.encoderScale ≤ (webAt valid 250 250 0).web.w ∧ (webAt valid 249 249 0).web.w < line3.encoderScale := by
  decide +kernel

/-- A reverse count that goes just above the allowance, one that just reaches it, and one in an excursion already limited. -/
theorem witness_EncoderCountMovesTheWeb_reverse :
    let s := webAt valid 500249 1000000 0
    let t := webAt valid 500250 1000000 0
    let u := s.putWeb { s.web with reverseLimit := true }
    (WebInv s ∧ s.web.reverseLimit = false ∧ line3.allowanceMm * 1000 < s.web.excursion + line3.encoderScale)
      ∧ (WebInv t ∧ t.web.reverseLimit = false ∧ t.web.excursion + line3.encoderScale ≤ line3.allowanceMm * 1000)
      ∧ (WebInv u ∧ u.web.reverseLimit = true) := by
  unfold WebInv; decide +kernel

/-- R13, R14, R29: forward counts that just end an excursion and stop just short of its end; the count that raises the web-limit flag; a
new high-water mark over a marker whose first crossing it makes due. -/
theorem witness_EncoderCountMovesTheWeb_forward :
    let at' (w : Nat) := (webAt valid w 1000000 0).putWeb { (webAt valid w 1000000 0).web with reverseLimit := true }
    let l := webAt valid 281474976710406 281474976710406 0
    let m := (webAt valid 9399750 9399750 0).putTags [⟨1, .marker 5, 0, none, 0⟩]
    (WebInv (at' 999750) ∧ (at' 999750).web.excursion ≤ line3.encoderScale)
      ∧ (WebInv (at' 999749) ∧ line3.encoderScale < (at' 999749).web.excursion)
      ∧ (l.web.deficit = 0 ∧ 281474976710655 < l.web.w + line3.encoderScale ∧ l.web.webLimit = false)
      ∧ (WebInv m ∧ TrackInv m ∧ m.web.excursion < line3.encoderScale ∧ m.web.wmax < 281474976710655
        ∧ m.nextGateOf ⟨1, .marker 5, 0, none, 0⟩ = some ⟨.lift 0, 9400000⟩) := by
  unfold WebInv TrackInv; decide +kernel

/-- R144: a halt spent mark that a forward count of 250 brings W - D 1,000 past, one that it brings 999 past, and one under a count that a
deficit takes up.  R128: a SETTLING changeover without a followed seam, under the count that brings Wmax to the oven's 60,000,000, one
that stops 1 short, and one that makes no new high-water mark. -/
theorem witness_EncoderCountMovesTheWeb_marks :
    let s := webAt valid 9750 9750 0
    let d := webAt valid 0 9750 250
    let n : Changeover := { Changeover.cleared with state := .settling, blend := .both }
    let c (w wmax : Nat) := (webAt valid w wmax 0).putChangeover n
    (WebInv s ∧ s.web.deficit < line3.encoderScale ∧ s.web.w < 281474976710655
        ∧ (9000 : Int) + 1000 ≤ min (s.front + line3.encoderScale) 281474976710655
        ∧ min (s.front + line3.encoderScale) 281474976710655 < (9001 : Int) + 1000)
      ∧ (WebInv d ∧ ¬ d.web.deficit < line3.encoderScale)
      ∧ (WebInv (c 59999750 59999750) ∧ (c 59999750 59999750).web.excursion < line3.encoderScale
        ∧ (c 59999750 59999750).changeover.state = .settling ∧ (c 59999750 59999750).changeover.boundSeam = none
        ∧ (line3.ovenOut : Int) - line3.ovenIn ≤ min ((c 59999750 59999750).front + line3.encoderScale) 281474976710655)
      ∧ (WebInv (c 59999749 59999749)
        ∧ min ((c 59999749 59999749).front + line3.encoderScale) 281474976710655 < (line3.ovenOut : Int) - line3.ovenIn)
      ∧ (WebInv (c 59999750 60000000) ∧ ¬ (c 59999750 60000000).web.excursion < line3.encoderScale) := by
  unfold WebInv; decide +kernel

theorem geometryInv_webAt (w wmax d : Nat) : GeometryInv (webAt valid w wmax d) := geometryInv_valid

/-- The sum 66683 gives the speed 4000 (R15); 66684 gives 4001.  Against the threshold 4000 the first clears a timing watch, the
second starts one. -/
theorem witness_SpeedRecomputeMeasures :
    let at' (sum : Int) (w : Watch) := (valid.putWeb { valid.web with slices := (Vector.replicate 10 0).set 3 sum }).putOven
      { valid.oven with operating := true, watch := w, threshold := some 4000 }
    let s := at' 66684 .clear
    let t := at' 66683 .timing
    (s.powered = true ∧ s.oven.operating = true ∧ s.oven.watch = .clear ∧ s.oven.threshold = some 4000
        ∧ 4000 < min 65535 (s.web.slices.toList.sum.natAbs * 6 / 100))
      ∧ (t.oven.operating = true ∧ t.oven.watch = .timing ∧ t.oven.threshold = some 4000
        ∧ min 65535 (t.web.slices.toList.sum.natAbs * 6 / 100) ≤ 4000)
      ∧ valid.oven.operating = false := by decide +kernel

/-- Supervision of `working` with the given watch, halt timer and speed span, over a web at rest; H is 20.0 s. -/
def restingOven (w : Watch) (timer : Option Nat) (held : SpanRef) : State :=
  working.putOven { Oven.start with
    operating := true, watch := w, threshold := some 4080, haltTimer := timer, speedSpan := held }

/-- An open speed span at EXIT. -/
def speedTag : Tag := ⟨9, .undercure .speed, -80000000, none, 11⟩

/-- R140: the excess of an OPEN watch ends with its span in the track.  R142, R143: a standstill with the timer stopped, 10 ms before
the dwell and at it. -/
theorem witness_SpeedRecomputeMeasures_open_and_halt :
    (let s := (restingOven .opened none (.id 9)).putTags [speedTag]
     s.powered = true ∧ s.oven.operating = true ∧ s.oven.watch = .opened ∧ s.oven.threshold = some 4080
      ∧ min 65535 (s.web.slices.toList.sum.natAbs * 6 / 100) ≤ 4080 ∧ s.oven.speedSpan = .id 9
      ∧ findTag 9 s.tags = some speedTag ∧ speedTag.isOpen = true
      ∧ (s.web.wmax : Int) < max speedTag.uStart (s.front - s.geo (·.ovenIn)) + s.geo (·.exitPos))
      ∧ (let s := restingOven .clear none .none
         let t := restingOven .clear (some 19980) .none
         let u := restingOven .clear (some 19990) .none
         min 65535 (s.web.slices.toList.sum.natAbs * 6 / 100) = 0 ∧ s.haltDwellInForce.getD 0 = 200 ∧ s.oven.haltMark = none
          ∧ s.oven.haltTimer = none ∧ 19980 + 10 < t.haltDwellInForce.getD 0 * 100
          ∧ u.haltDwellInForce.getD 0 * 100 ≤ 19990 + 10 ∧ u.geom.working = some line3 ∧ u.oven.watch ≠ .opened
          ∧ u.tags.length < 128 ∧ (u.web.wmax : Int) < u.front - line3.ovenIn + line3.exitPos) := by decide +kernel

theorem invariants_restingOven :
    GeometryInv ((restingOven .opened none (.id 9)).putTags [speedTag]) ∧ GeometryInv (restingOven .clear (some 19990) .none)
      ∧ TrackInv ((restingOven .opened none (.id 9)).putTags [speedTag]) ∧ TrackInv (restingOven .clear (some 19990) .none) :=
  ⟨geometryInv_valid, geometryInv_valid, by unfold TrackInv; decide +kernel, by unfold TrackInv; decide +kernel⟩

/-- `n` markers past every CLEAR gate, which are evictable, or before the first gate. -/
def markers (n gate : Nat) : List Tag := (List.range n).map (fun i => ⟨i + 1, .marker i, i, none, gate⟩)

/-- `working` under a PENDING changeover to slot 2, at W = 600,000, with the given tags. -/
def seamAt (l : List Tag) : State :=
  (((webAt working 600000 600000 0).putSlot 1 (.staged { jobA with id := 206 })).putChangeover
    (Changeover.stagedFrom 0 1 jobA)).putTags l

/-- R25, R36, R37: room for both tags; one and two places lacking with as many evictable tags; two lacking with none. -/
theorem witness_SeamDetectionJudged_inserted :
    (∀ s ∈ [seamAt [], seamAt (markers 127 9), seamAt (markers 128 9), seamAt (markers 128 0)],
        s.powered = true ∧ s.geom.working = some line3 ∧ s.web.direction = .forward ∧ s.web.w = s.web.wmax
          ∧ s.web.deficit = 0 ∧ s.web.lastSeam = none ∧ s.seamBinding = some 1)
      ∧ (seamAt []).lacking = 0
      ∧ ((seamAt (markers 127 9)).lacking = 1 ∧ (seamAt (markers 127 9)).tags.find? (seamAt (markers 127 9)).evictable ≠ none)
      ∧ (seamAt (markers 128 9)).lacking ≤ ((seamAt (markers 128 9)).tags.filter (seamAt (markers 128 9)).evictable).length
      ∧ ((seamAt (markers 128 0)).tags.filter (seamAt (markers 128 0)).evictable).length < (seamAt (markers 128 0)).lacking
      ∧ (∀ gate ∈ (seamAt []).geom.gates, 0 < gate.pos) ∧ ⟨.lift 0, 0⟩ ∈ liftAtEntry.geom.gates := by decide +kernel

theorem invariants_seamAt :
    GeometryInv (seamAt []) ∧ GeometryInv (seamAt (markers 128 9)) ∧ TrackInv (seamAt []) ∧ TrackInv (seamAt (markers 127 9))
      ∧ TrackInv (seamAt (markers 128 9)) ∧ TrackInv (seamAt (markers 128 0)) :=
  ⟨geometryInv_valid, geometryInv_valid, by unfold TrackInv; decide +kernel, by unfold TrackInv; decide +kernel,
    by unfold TrackInv; decide +kernel, by unfold TrackInv; decide +kernel⟩

/-- A detection at the hold-off, and one for each reason to ignore it. -/
theorem witness_SeamDetectionJudged :
    let at' (w l : Nat) := (webAt valid w w 0).putWeb { (webAt valid w w 0).web with lastSeam := some l }
    let s := at' 600000 100000
    let t := at' 599999 100000
    (s.powered = true ∧ s.geom.working = some line3 ∧ s.web.direction = .forward ∧ s.web.w = s.web.wmax ∧ s.web.deficit = 0
        ∧ s.web.lastSeam = some 100000 ∧ line3.holdOffMm * 1000 ≤ s.web.w - 100000)
      ∧ (t.geom.working = some line3 ∧ t.web.lastSeam = some 100000 ∧ t.web.w - 100000 < line3.holdOffMm * 1000)
      ∧ ready.geom.working = none ∧ (webAt valid 5 6 0).web.w ≠ (webAt valid 5 6 0).web.wmax
      ∧ (webAt valid 0 0 1).web.deficit ≠ 0 ∧ (valid.putWeb { valid.web with direction := .reverse }).web.direction = .reverse
      := by decide +kernel

/-- A seam before LIFT_1 with hold 0 and a DOWN station, before NIP_1 of a DOWN and of an UP station, before CLEAR_1 with hold 1,
before EXIT with an open report and a queue of 7 and of 8 reports; and the followed seam before both oven gates. -/
theorem witness_SeamCrossingsTaken :
    let tag (i : Nat) : Tag := ⟨4, .seam none, 100, none, i⟩
    let bound (i : Nat) : Tag := ⟨4, .seam (some 1), 100, none, i⟩
    let rep : Report := ⟨1, ⟨1, 2, 3⟩, 0, 5, .seam, [], 0⟩
    let q (n : Nat) := working.putReports { working.reports with
      current := some ⟨⟨1, 2, 3⟩, 50, [], 0⟩, queue := List.replicate n rep }
    let c := valid.putChangeover { Changeover.cleared with state := .settling, boundSeam := some ⟨4, 100⟩ }
    (working.nextGateOf (tag 0) = some ⟨.lift 0, 9400000⟩ ∧ (working.station 0).hold = 0
        ∧ (working.station 0).state = .down)
      ∧ (working.nextGateOf (tag 1) = some ⟨.nip 0, 10000000⟩ ∧ (valid.station 0).state = .up)
      ∧ ((working.putStation 0 { working.station 0 with hold := 1 }).nextGateOf (tag 2) = some ⟨.clear 0, 10400000⟩)
      ∧ ((q 7).nextGateOf (tag 11) = some ⟨.exit, 90000000⟩ ∧ (q 7).reports.current = some ⟨⟨1, 2, 3⟩, 50, [], 0⟩
          ∧ (q 7).reports.queue.length < 8 ∧ 8 ≤ (q 8).reports.queue.length)
      ∧ (c.changeover.state = .settling ∧ c.changeover.boundSeam = some ⟨4, 100⟩ ∧ (bound 9).id = 4
          ∧ c.nextGateOf (bound 9) = some ⟨.ovenIn, 20000000⟩ ∧ c.nextGateOf (bound 10) = some ⟨.ovenOut, 80000000⟩) := by
  decide +kernel

/-- R46, R49, R50, R51: tags of each other kind before EXIT, closed; an open report with 23 items and one with 24; and none. -/
theorem witness_SeamCrossingsTaken_exit :
    let tag (kind : TagKind) : Tag := ⟨4, kind, 100, some 5100, 11⟩
    let q (n : Nat) := working.putReports { working.reports with
      current := some ⟨⟨1, 2, 3⟩, 50, List.replicate n ⟨.overcure, 1, 2⟩, 254⟩ }
    (∀ kind ∈ [TagKind.rollHead ⟨1, 2, 3⟩, .marker 7, .printGap 1 true, .printGap 1 false, .misregister 1, .undercure .speed,
        .overcure, .seam (some 1)], working.nextGateOf (tag kind) = some ⟨.exit, 90000000⟩)
      ∧ (tag (.printGap 1 true)).kind.isSpan = true ∧ (tag (.printGap 1 true)).kind.spanItem = none
      ∧ (tag .overcure).kind.spanItem = some .overcure
      ∧ (∀ r, (q 23).reports.current = some r → r.items.length < 24)
      ∧ (∀ r, (q 24).reports.current = some r → 24 ≤ r.items.length) ∧ working.reports.current = none := by decide +kernel

/-- A bound SEAM before LIFT_1, NIP_1 and CLEAR_1 (R92, R100, R101), where no changeover follows it. -/
theorem witness_SeamCrossingsTaken_of_any_binding :
    let tag (i : Nat) : Tag := ⟨4, .seam (some 1), 100, none, i⟩
    working.nextGateOf (tag 0) = some ⟨.lift 0, 9400000⟩ ∧ working.nextGateOf (tag 1) = some ⟨.nip 0, 10000000⟩
      ∧ working.nextGateOf (tag 2) = some ⟨.clear 0, 10400000⟩ ∧ (working.station 0).state = .down
      ∧ working.changeover.state ≠ .bound := by decide +kernel

/-- R121, R123: the bound seam before CLEAR_3, with no station switched, with the other two switched, and with station 3 itself
switched. -/
theorem witness_SeamCrossingsTaken_bound :
    let t : Tag := ⟨4, .seam (some 1), 100, none, 8⟩
    let at' (n : Nat) (three : Bool) := (seamAt []).putChangeover { (seamAt []).changeover with
      state := .bound, boundSeam := some ⟨4, 100⟩
      switched := Vector.ofFn fun k => decide (k.val < n) || (three && decide (k.val = 2)) }
    (∀ s ∈ [at' 0 false, at' 2 false],
        s.nextGateOf t = some ⟨.clear 2, 14400000⟩ ∧ s.changeover.state = .bound ∧ s.changeover.boundSeam = some ⟨4, 100⟩
          ∧ s.changeover.switched[2] = false ∧ s.changeover.oldSlot = some 0 ∧ s.changeover.stagedSlot = some 1
          ∧ s.slot 0 = .active jobA ∧ s.slot 1 = .staged { jobA with id := 206 })
      ∧ ((at' 0 false).installed 0 = true ∧ (at' 0 false).changeover.switched[0] = false)
      ∧ (∀ j, (at' 2 false).installed j = true → j = 2 ∨ (at' 2 false).changeover.switched[j] = true)
      ∧ (at' 0 true).changeover.switched[2] = true := by decide +kernel

/-! ### Witnesses: register channels and stations -/

/-- A channel of station 2 under job A. -/
def channelAt (c : Channel) : State := (State.putChannel working 1 c).putStation 1 (working.station 1)

/-- A LOCKED channel that expects its mark at 1,000,000. -/
def lockedChannel : Channel :=
  { Channel.start with state := .locked, referenced := true, wExp := some 1000000, wLast := some 360000 }

/-- A count that reaches C + 2 and one that passes it; an index pulse 2 counts from C and one 3 counts from it, in LOCKED and in
UNUSED. -/
theorem witness_ScreenPhaseFollowed :
    let s := channelAt { lockedChannel with revolution := 4097 }
    let t := channelAt { lockedChannel with revolution := 4098 }
    let u := channelAt { lockedChannel with revolution := 4099 }
    (s.powered = true ∧ s.installed 1 = true ∧ ((s.channel 1).revolution + 1).natAbs ≤ s.counts 1 + 2)
      ∧ ((t.channel 1).referenced = true ∧ t.counts 1 + 2 < ((t.channel 1).revolution + 1).natAbs)
      ∧ (((t.channel 1).revolution - t.counts 1).natAbs ≤ 2)
      ∧ ((u.channel 1).referenced = true ∧ (u.channel 1).state = .locked
          ∧ ¬ (((u.channel 1).revolution - u.counts 1).natAbs ≤ 2 ∨ (u.channel 1).revolution.natAbs ≤ 2
            ∨ ((u.channel 1).revolution + u.counts 1).natAbs ≤ 2)) := by decide +kernel

theorem witness_MarkInHuntIsTheCandidate :
    let s := channelAt { Channel.start with state := .hunt, referenced := true }
    ChannelInv s ∧ (s.channel 1).state = .hunt ∧ s.powered = true ∧ s.installed 1 = true ∧ s.web.direction = .forward
      ∧ s.web.deficit = 0 ∧ (s.channel 1).referenced = true ∧ s.jobFor 1 = some jobA := by
  unfold ChannelInv Channel.inv; decide +kernel

/-- A detection at the edge of the window of a LOCKED channel without and with a trim in flight. -/
theorem witness_MarkInWindowMeasures :
    let s := webAt (channelAt lockedChannel) 1005000 1005000 0
    let t := webAt (channelAt { lockedChannel with flight := some ⟨3, 40, 900000⟩, trimTimer := some 20 }) 995000 995000 0
    (s.powered = true ∧ s.installed 1 = true ∧ s.web.direction = .forward ∧ s.web.deficit = 0 ∧ (s.channel 1).state = .locked
        ∧ (s.channel 1).referenced = true ∧ s.jobFor 1 = some jobA ∧ (s.channel 1).wExp = some 1000000
        ∧ ((s.web.w : Int) - 1000000).natAbs ≤ jobA.window ∧ (s.channel 1).flight = none)
      ∧ (t.jobFor 1 = some jobA ∧ ((t.web.w : Int) - 1000000).natAbs ≤ jobA.window ∧ (t.channel 1).flight ≠ none) := by
  decide +kernel

/-- R65, R66, R68, R69: a taken detection just before the window, at its last W, and just after it, in CONFIRM and in LOCKED. -/
theorem witness_MarkInWindowMeasures_strays_and_expiry :
    let at' (x : ChannelState) (w : Nat) := webAt (channelAt { lockedChannel with state := x }) w w 0
    (∀ x ∈ [ChannelState.confirm, .locked], ∀ w ∈ [994999, 1005000, 1005001],
        (at' x w).takesMark 1 ∧ ((at' x w).channel 1).state = x ∧ (at' x w).jobFor 1 = some jobA
          ∧ ((at' x w).channel 1).wExp = some 1000000)
      ∧ ((994999 : Nat) : Int) + jobA.window < 1000000 ∧ ((1005000 : Nat) : Int) ≤ 1000000 + jobA.window
      ∧ 1000000 + (jobA.window : Int) < (1005001 : Nat) := by
  unfold State.takesMark; decide +kernel

/-- R70, R71: a missing mark on the last fabric of a closed gap of the reference, one just past it, and the misses just below the
limit, at it and, for a kept channel, above it (log entry 30). -/
theorem witness_MarkInWindowMeasures_missed :
    let at' (e : Int) (n : Nat) := (channelAt { lockedChannel with misses := n }).putTags [⟨1, .printGap 0 true, -11000000, some e, 3⟩]
    (at' (-10000000) 0).gapCovers 0 (1000000 - (at' 0 0).markPos 1) ∧ ¬ (at' (-10000001) 0).gapCovers 0 (1000000 - (at' 0 0).markPos 1)
      ∧ ((at' 0 1).channel 1).misses + 1 < jobA.missLimit ∧ jobA.missLimit ≤ ((at' 0 2).channel 1).misses + 1
      ∧ jobA.missLimit < ((at' 0 5).channel 1).misses + 1 := by
  refine ⟨⟨⟨1, .printGap 0 true, -11000000, some (-10000000), 3⟩, by decide +kernel, by decide +kernel, by decide +kernel, ?_⟩, ?_,
    by decide +kernel, by decide +kernel, by decide +kernel⟩
  · intro e h; cases h; decide +kernel
  · rintro ⟨x, hx, -, -, h⟩
    obtain rfl := List.mem_singleton.1 hx
    exact absurd (h _ rfl) (by decide +kernel)

theorem witness_ErrorAndTrimBounds : 0 < 640000 ∧ 640000 % 2 = 0 ∧ 639999 < 640000 := by decide

theorem witness_TrimDoneEndsTheFlight :
    let s := channelAt { lockedChannel with flight := some ⟨3, 40, 900000⟩, trimTimer := some 20 }
    s.powered = true ∧ s.installed 1 = true ∧ (s.channel 1).flight = some ⟨3, 40, 900000⟩ ∧ (3 : Nat) = (3 : Byte).toNat
      ∧ (3 : Nat) ≠ (4 : Byte).toNat ∧ ((channelAt lockedChannel).channel 1).flight = none := by decide +kernel

theorem witness_TrimTimeoutEndsTheFlight :
    let s := channelAt { lockedChannel with flight := some ⟨3, 40, 900000⟩, trimTimer := some 20 }
    s.powered = true ∧ s.link.state = .ready ∧ (s.channel 1).flight = some ⟨3, 40, 900000⟩ ∧ (s.channel 1).state = .locked
      := by decide +kernel

/-- Station 2 in the given state with its timer running. -/
def strokeAt (x : StationState) : State :=
  working.putStation 1 { working.station 1 with state := x, lowerTimer := some 0, raiseTimer := some 0 }

theorem witness_LowerTimeoutSticks :
    (strokeAt .lowering).powered = true ∧ ((strokeAt .lowering).station 1).state = .lowering
      ∧ ((strokeAt .lowering).station 1).lowerTimer.isSome = true ∧ (strokeAt .lowering).link.state = .ready := by
  decide +kernel

theorem witness_RaiseTimeoutSticksAndTrips :
    let run := govAt (strokeAt .raising) .run 1
    run.powered = true ∧ (run.station 1).state = .raising ∧ (run.station 1).raiseTimer.isSome = true ∧ run.gov.state = .run
      ∧ 0 < run.gov.demand ∧ (govAt run .run 0).gov.demand = 0 ∧ (govAt run .halt 0).gov.state = .halt
      ∧ (govAt run .tripping 1).gov.state = .tripping := by decide +kernel

/-! ### Witnesses: oven and governor -/

/-- 128 closed markers far up the path. -/
def fullTags : List Tag := (List.range 128).map (fun i => ⟨i + 1, .marker i, i, none, 0⟩)

/-- Supervision operating with a timing watch and a running halt timer. -/
def supervised (s : State) : State := s.putOven { s.oven with
  operating := true, watch := .timing, excessStart := some 5, persistence := some 0, haltTimer := some 0 }

/-- The track with room (127 tags) and full (128 tags). -/
theorem witness_OvenTimersExpire :
    let s := supervised (working.putTags (fullTags.take 127))
    let t := supervised (working.putTags fullTags)
    (s.powered = true ∧ s.oven.operating = true ∧ s.oven.watch = .timing ∧ s.oven.excessStart = some 5
        ∧ s.tags.length < 128 ∧ s.oven.haltTimer.isSome = true ∧ s.geom.working = some line3
        ∧ (s.web.wmax : Int) < s.front - line3.ovenIn + line3.exitPos)
      ∧ 128 ≤ t.tags.length := by decide +kernel

theorem trackInv_127 : TrackInv (supervised (working.putTags (fullTags.take 127))) := by
  unfold TrackInv; decide +kernel
theorem trackInv_128 : TrackInv (supervised (working.putTags fullTags)) := by
  unfold TrackInv; decide +kernel
/-- A count past C + 2 in REFERENCE, an index pulse 3 counts from C in UNUSED, and both in LOCKED; the last at a station that is DOWN
in PRINT mode with no span held, with room in the track and without. -/
theorem witness_ScreenPhaseFollowed_slips :
    let at' (st : ChannelState) (r : Int) := channelAt { Channel.start with state := st, referenced := true, revolution := r }
    let l := channelAt { lockedChannel with revolution := 4099 }
    let f := l.putTags fullTags
    ((at' .reference 4098).counts 1 + 2 < (((at' .reference 4098).channel 1).revolution + 1).natAbs
        ∧ ((at' .reference 4098).channel 1).referenced = true ∧ ((at' .reference 4098).channel 1).state = .reference)
      ∧ (((at' .unused 4099).channel 1).state = .unused
        ∧ ¬ ((((at' .unused 4099).channel 1).revolution - (at' .unused 4099).counts 1).natAbs ≤ 2
          ∨ ((at' .unused 4099).channel 1).revolution.natAbs ≤ 2
          ∨ (((at' .unused 4099).channel 1).revolution + (at' .unused 4099).counts 1).natAbs ≤ 2))
      ∧ ((l.channel 1).state = .locked ∧ (l.station 1).mode = .print ∧ (l.station 1).state = .down ∧ (l.channel 1).span = .none
        ∧ l.tags.length < 128 ∧ l.link.state = .ready)
      ∧ ((f.channel 1).state = .locked ∧ (f.station 1).mode = .print ∧ (f.station 1).state = .down ∧ (f.channel 1).span = .none
        ∧ 128 ≤ f.tags.length) := by decide +kernel

theorem trackInv_slip : TrackInv (channelAt { lockedChannel with revolution := 4099 }) := trackInv_reset

theorem witness_CureLimitComputed :
    (supervised working).oven.operating = true ∧ (supervised working).geom.working = some line3
      ∧ (supervised working).dwellInForce = some 900 := by decide +kernel

theorem witness_UpdateMovesTheDemand :
    valid.powered = true ∧ GovernorInv valid ∧ valid.geom.working = some line3 ∧ line3.rangesHold = true := by
  unfold GovernorInv; decide +kernel

/-- Every state of the governor, and a jog with its timer stopped and with a reversal pending. -/
theorem witness_UpdateComposesTheLimit :
    let jog := govAt working .jog 5
    let on := jog.putGov { jog.gov with jogTimer := some 3 }
    let rev := jog.putGov { jog.gov with jogTimer := some 3, reversalPending := true }
    working.powered = true ∧ (govAt working .run 5).gov.state = .run ∧ working.maxSpeedInForce = some 5000
      ∧ (on.gov.state = .jog ∧ on.gov.jogTimer.isSome = true ∧ on.gov.reversalPending = false ∧ 0 < on.geo (·.jogSpeed))
      ∧ (jog.gov.jogTimer = none ∧ rev.gov.reversalPending = true) := by decide +kernel

theorem witness_BatcherFallHalts : (govAt working .run 5).gov.state = .run ∧ working.gov.state ≠ .run := by decide +kernel

theorem witness_TripRequestsTaken :
    TripCause.guard ≠ .estop ∧ (govAt working .jog 0).gov.state = .jog ∧ working.gov.causes.has .guard = false
      ∧ working.link.state = .ready ∧ (TripSet.empty.insert .guard).has .guard = true := by decide +kernel

/-! ### Witnesses: requests -/

theorem witness_RequestsJudged :
    (State.reset.powered = true ∧ State.reset.link.queue = [] ∧ State.reset.link.restart ≠ .due
        ∧ State.reset.link.state = .starting ∧ commandFrame (.run 1 []) = some ⟨0x19, 1, []⟩)
      ∧ (commandFrame (.identify 1 []) = some ⟨0x01, 1, []⟩)
      ∧ (ready.powered = true ∧ ready.link.queue = [] ∧ ready.link.restart ≠ .due ∧ ready.link.state = .ready
        ∧ commandFrame (.unknownKind 0x40 1 []) = some ⟨0x40, 1, []⟩ ∧ requestOf 0x40 = none)
      ∧ (requestOf 0x19 = some .run ∧ ([0] : List Byte).length ≠ RequestKind.run.bodyLength)
      ∧ ((0x7F : Byte).toNat < 0x80 ∧ 0x80 ≤ (0x80 : Byte).toNat) := by decide +kernel

theorem witness_RefusalsChangeNothing :
    ∃ t code rest, TrackInv ready ∧ ownRule .run [] ready = (t, some (code :: rest)) ∧ code ≠ 0x00 :=
  ⟨ready, 0x09, [], trackInv_reset, rfl, by decide⟩

theorem witness_ReadingRequestsAnswer :
    valid.listening = true ∧ valid.geom.working = some line3 ∧ slotOf (4 : Byte).toNat = some 3
      ∧ stationOf (16 : Byte).toNat = some 15 ∧ pointOf (127 : Byte).toNat = some 127 ∧ (127 : Byte).toNat ≤ 127 := by
  decide +kernel

/-- A part that listens with service access. -/
def serviced (s : State) : State := s.putLink { s.link with serviceAccess := true }

/-- Each check of Set Geometry with those before it passed, and all of them passed. -/
theorem witness_SetGeometryTaken :
    let body (g : GeomRecord) := geometryBytes g
    (valid.listening = true ∧ (body line3).length = 410 ∧ valid.link.serviceAccess = false)
      ∧ ((serviced (govAt valid .run 0)).listening = true ∧ (serviced (govAt valid .run 0)).gov.state ≠ .halt)
      ∧ ((serviced working).gov.state = .halt ∧ (serviced working).jobActive = true)
      ∧ ((serviced valid).jobActive = false
          ∧ (readGeometry (body { line3 with debounceLine := 16 })).rangesHold = false)
      ∧ ((readGeometry (body { line3 with exitPos := 80000000 })).rangesHold = true
          ∧ (readGeometry (body { line3 with exitPos := 80000000 })).blamed = [15])
      ∧ ((serviced valid).listening = true ∧ (serviced valid).link.serviceAccess = true ∧ (serviced valid).gov.state = .halt
          ∧ (readGeometry (body line3)).rangesHold = true ∧ (readGeometry (body line3)).blamed = []) := by decide +kernel

theorem witness_SaveGeometryWrites :
    let f := requestFrame .saveGeometry 1 []
    let w := (valid.taking f).putGeom { valid.geom with writing := some line3 }
    valid.listening = true ∧ valid.link.serviceAccess = false ∧ (serviced ready).geom.working = none
      ∧ (serviced valid).listening = true ∧ (serviced valid).geom.working = some line3
      ∧ (w.powered = true ∧ w.geom.writing = some line3 ∧ w.link.queue = [f]) := by decide +kernel

theorem witness_SavedGeometryReadsBack : line3.fits = true ∧ line3.rangesHold = true ∧ line3.blamed = [] := by decide +kernel

/-- The three-station line, whose CLEAR_1 and LIFT_2 stand at one position. -/
theorem witness_GateTableInOrder :
    line3.rangesHold = true ∧ line3.blamed = [] ∧ (2 : StationIx).val < line3.installed ∧ 1 ≤ line3.zoneCount
      ∧ (1 : ZoneIx).val + 1 = line3.zoneCount := by
  decide +kernel

/-- The body of a Load Job of slot 2 with job A's record. -/
def loadBody : List Byte := 2 :: jobBytes jobA

theorem witness_LoadJobStoresInRange :
    working.listening = true ∧ loadBody.length = 186 ∧ slotOf (be (loadBody.take 1)) = some 1
      ∧ (working.slot 1).isActive = false ∧ (working.slot 1).isStaged = false
      ∧ (readJobRecord (loadBody.drop 1)).structureHolds = true
      ∧ (readJobRecord (loadBody.drop 1)).blamed (working.geom.working.map (·.installed)) = [] := by decide +kernel

/-- Load Job with each check failing in turn: the slot number, a slot in use, a structural field (an id of 0), and a combination that blames
two items (the reference's mode and the mode of a station above N). -/
theorem witness_LoadJobStoresInRange_refused :
    let bad : RawJob := { readJobRecord (jobBytes jobA) with id := 0 }
    let off : JobEntry := ⟨.off, 0, 0, 200, false⟩
    let two : Job := { jobA with entries := (jobA.entries.set 0 off).set 3 { off with mode := .print } }
    slotOf (be [(0 : Byte)]) = none ∧ slotOf (be [(5 : Byte)]) = none ∧ slotOf (be [(1 : Byte)]) = some 0
      ∧ (working.slot 0).isActive = true ∧ bad.structureHolds = false
      ∧ (readJobRecord (jobBytes two)).structureHolds = true
      ∧ (readJobRecord (jobBytes two)).blamed (working.geom.working.map (·.installed)) = [3, 31] := by decide +kernel

/-- Job A loaded in slot 1 on a line at rest. -/
def jobLoaded : State := (goodPoints 0 valid).putSlot 0 (.loaded jobA)

theorem trackInv_jobLoaded : TrackInv jobLoaded := by unfold TrackInv; decide +kernel

/-- With an oven, and on the same line without one. -/
theorem witness_StartJobTakesEffect :
    let s := jobLoaded
    let t := jobLoaded.putGeom { jobLoaded.geom with working := some { line3 with zoneCount := 0 } }
    s.listening = true ∧ slotOf (1 : Byte).toNat = some 0 ∧ s.gov.state = .halt ∧ s.geom.working = some line3
      ∧ s.jobActive = false ∧ (s.slot 0).job = some jobA
      ∧ (∀ k : StationIx, line3.installed ≤ k.val → jobA.entries[k].mode = .off)
      ∧ s.changeover.state = .none ∧ s.installed 1 = true ∧ s.upTrue 1 = true ∧ (s.station 1).state = .up
      ∧ 1 ≤ line3.zoneCount ∧ t.listening = true ∧ t.geom.working = some { line3 with zoneCount := 0 } := by decide +kernel

/-- A job that leaves two stations above the three installed ones not OFF: stations 4 and 16. -/
def jobBeyond : Job :=
  { jobA with entries := (jobA.entries.set 3 { jobA.entries[3] with mode := .idle }).set 15 { jobA.entries[15] with mode := .print } }

/-- Start Job with each check failing in turn. -/
theorem witness_StartJobTakesEffect_refused :
    let b := jobLoaded.putSlot 1 (.loaded jobBeyond)
    slotOf (0 : Byte).toNat = none ∧ slotOf (5 : Byte).toNat = none ∧ (govAt jobLoaded .jog 0).gov.state ≠ .halt
      ∧ (ready.gov.state = .halt ∧ ready.geom.working = none) ∧ (working.gov.state = .halt ∧ working.jobActive = true)
      ∧ (jobLoaded.jobActive = false ∧ (jobLoaded.slot 2).job = none)
      ∧ (b.listening = true ∧ slotOf (2 : Byte).toNat = some 1 ∧ b.jobActive = false ∧ (b.slot 1).job = some jobBeyond
        ∧ line3.installed ≤ (3 : StationIx).val ∧ jobBeyond.entries[(3 : StationIx)].mode ≠ .off
        ∧ ∀ m : StationIx, line3.installed ≤ m.val → m.val < (3 : StationIx).val → jobBeyond.entries[m].mode = .off) := by
  decide +kernel

theorem witness_EndJobTakesEffect :
    let c := working.putChangeover (Changeover.stagedFrom 0 1 jobA)
    working.listening = true ∧ (govAt working .run 0).gov.state ≠ .halt ∧ valid.activeSlot = none
      ∧ (c.activeSlot = some 0 ∧ c.changeover.state ≠ .none)
      ∧ (working.gov.state = .halt ∧ working.activeSlot = some 0 ∧ working.slot 0 = .active jobA
        ∧ working.changeover.state = .none) := by decide +kernel

theorem witness_StageAndCancel :
    let jobB : Job := { jobA with id := 206 }
    let s := working.putSlot 1 (.loaded jobB)
    let c := (working.putSlot 1 (.staged jobB)).putChangeover (Changeover.stagedFrom 0 1 jobA)
    (s.listening = true ∧ slotOf (2 : Byte).toNat = some 1 ∧ s.geom.working = some line3 ∧ s.activeSlot = some 0
        ∧ s.slot 0 = .active jobA ∧ s.changeover.state = .none ∧ (s.slot 1).job = some jobB
        ∧ (∀ k : StationIx, line3.installed ≤ k.val → jobB.entries[k].mode = .off) ∧ jobB.rpt = jobA.rpt)
      ∧ (c.listening = true ∧ c.changeover.state = .pending ∧ c.changeover.noneSwitched = true
        ∧ c.changeover.stagedSlot = some 1 ∧ c.slot 1 = .staged jobB)
      ∧ ({ c.changeover with switched := Vector.replicate 16 true } : Changeover).noneSwitched = false := by decide +kernel

/-- Stage Job with each check failing in turn. -/
theorem witness_StageAndCancel_refused :
    let s (j : Job) := working.putSlot 1 (.loaded j)
    let longer : Job := { jobA with rpt := 640010 }
    let off : JobEntry := ⟨.off, 0, 0, 200, false⟩
    let fewer : Job := { jobA with entries := (jobA.entries.set 1 off).set 2 off }
    slotOf (0 : Byte).toNat = none ∧ ready.geom.working = none ∧ valid.activeSlot = none
      ∧ (working.activeSlot = some 0 ∧ working.slot 0 = .active jobA ∧ (Changeover.stagedFrom 0 1 jobA).state ≠ .none)
      ∧ (working.changeover.state = .none ∧ (working.slot 1).job = none ∧ (working.slot 0).job = some jobA)
      ∧ (((s jobBeyond).slot 1).job = some jobBeyond ∧ jobBeyond.entries[(3 : StationIx)].mode ≠ .off
        ∧ ∀ m : StationIx, line3.installed ≤ m.val → m.val < (3 : StationIx).val → jobBeyond.entries[m].mode = .off)
      ∧ (((s longer).slot 1).job = some longer ∧ (∀ k : StationIx, line3.installed ≤ k.val → longer.entries[k].mode = .off)
        ∧ longer.rpt ≠ jobA.rpt)
      ∧ (((s fewer).slot 1).job = some fewer ∧ fewer.rpt = jobA.rpt ∧ (1 : StationIx).val < line3.installed
        ∧ ¬ ((jobA.entries[(1 : StationIx)].mode = .off) ↔ (fewer.entries[(1 : StationIx)].mode = .off))
        ∧ ∀ m : StationIx, m.val < (1 : StationIx).val → ((jobA.entries[m].mode = .off) ↔ (fewer.entries[m].mode = .off))) := by
  decide +kernel

/-- Run in each state, and in HALT with each of its checks failing in turn. -/
theorem witness_RunTaken :
    let off (p : PointNo) := working.putPoint p (standing false)
    working.listening = true ∧ working.gov.state = .halt ∧ valid.jobActive = false ∧ working.jobActive = true
      ∧ ((off estopPoint).jobActive = true ∧ (off estopPoint).debounced estopPoint = false)
      ∧ ((off mainDrivePoint).debounced estopPoint = true ∧ (off mainDrivePoint).debounced mainDrivePoint = false)
      ∧ ((off batcherPoint).debounced mainDrivePoint = true ∧ (off batcherPoint).debounced batcherPoint = false)
      ∧ (working.debounced batcherPoint = true ∧ ∀ k, working.installed k = true → working.guardClosed k = true)
      ∧ ((off (stationPoint 2 3)).installed 2 = true ∧ (off (stationPoint 2 3)).guardClosed 2 = false
        ∧ (off (stationPoint 2 3)).gov.demand = 0) := by decide +kernel

theorem witness_TargetHaltAndClearTripTaken :
    let t := govAt working .tripped 0
    working.listening = true ∧ (govAt working .run 5).gov.state = .run ∧ (govAt working .jog 0).gov.state = .jog
      ∧ (t.listening = true ∧ t.gov.state = .tripped ∧ t.debounced estopPoint = true ∧ t.debounced mainDrivePoint = true
        ∧ t.web.reverseLimit = false ∧ t.web.webLimit = false
        ∧ ∀ k, t.installed k = true → (t.station k).state ≠ .stuck)
      ∧ (t.putPoint estopPoint (standing false)).debounced estopPoint = false := by decide +kernel

/-- Jog from HALT, renewed in either direction, with 1 ms and with 0, and without a geometry; and a running jog timer. -/
theorem witness_JogTakenAndExpires :
    let jog := (govAt working .jog 5).putGov { (govAt working .jog 5).gov with
      jogDirection := some .forward, jogTimer := some 0 }
    working.listening = true ∧ directionOf (0 : Byte).toNat = some .forward ∧ directionOf (1 : Byte).toNat = some .reverse
      ∧ working.geometryValid = true ∧ working.debounced estopPoint = true ∧ working.debounced mainDrivePoint = true
      ∧ 0 < (0 : Byte).toNat * 256 + (1 : Byte).toNat ∧ (0 : Byte).toNat * 256 + (0 : Byte).toNat = 0
      ∧ working.gov.state = .halt ∧ working.gov.demand = 0
      ∧ (∀ k, working.installed k = true → working.guardClosed k = true) ∧ ready.geom.working = none
      ∧ (jog.listening = true ∧ jog.gov.state = .jog ∧ jog.gov.jogDirection = some .forward
        ∧ jog.gov.jogDirection ≠ some .reverse ∧ jog.gov.jogTimer.isSome = true ∧ 0 < jog.gov.demand) := by decide +kernel

/-- Jog with a direction code that is neither, with ESTOP and MAIN_DRIVE false in HALT, and with a guard open at an installed station. -/
theorem witness_JogTakenAndExpires_refused :
    let off (p : PointNo) := working.putPoint p (standing false)
    let g := off (stationPoint 2 3)
    working.listening = true ∧ directionOf (2 : Byte).toNat = none
      ∧ ((off estopPoint).gov.state = .halt ∧ (off estopPoint).geometryValid = true ∧ (off estopPoint).debounced estopPoint = false)
      ∧ ((off mainDrivePoint).gov.state = .halt ∧ (off mainDrivePoint).debounced estopPoint = true
        ∧ (off mainDrivePoint).debounced mainDrivePoint = false)
      ∧ (g.listening = true ∧ g.geometryValid = true ∧ g.debounced estopPoint = true ∧ g.debounced mainDrivePoint = true
        ∧ g.gov.state = .halt ∧ g.gov.demand = 0 ∧ g.installed 2 = true ∧ g.guardClosed 2 = false
        ∧ g.gov.causes.guard = false) := by decide +kernel

/-- The checks of the station requests failing in turn, and Clear Station Fault on a station that is not in STUCK. -/
theorem witness_StationRequestsTaken_refused :
    let both := working.putPoint (stationPoint 1 1) (standing true)
    working.listening = true ∧ stationOf (0 : Byte).toNat = none ∧ stationOf (17 : Byte).toNat = none
      ∧ (valid.listening = true ∧ valid.jobActive = false)
      ∧ (working.jobActive = true ∧ stationOf (4 : Byte).toNat = some 3 ∧ working.installed 3 = false
        ∧ (working.station 3).mode = .off)
      ∧ (both.installed 1 = true ∧ both.downTrue 1 = true ∧ both.upTrue 1 = true)
      ∧ (working.installed 1 = true ∧ (working.downTrue 1 && working.upTrue 1) = false ∧ (working.station 1).state ≠ .stuck) := by
  decide +kernel

theorem witness_StationRequestsTaken :
    working.listening = true ∧ stationOf (3 : Byte).toNat = some 2 ∧ working.installed 2 = true ∧ working.jobActive = true
      ∧ (working.station 2).mode ≠ .off ∧ (working.station 2).state = .down
      ∧ ((strokeAt .stuck).downTrue 1 && (strokeAt .stuck).upTrue 1) = false ∧ ((strokeAt .stuck).station 1).state = .stuck
      := by decide +kernel

/-- Declarations with one place left and none; a roll head and a marker with one place left, a marker at the exit and one past
it, and one on a full track. -/
theorem witness_InsertionRequestsTaken :
    let s := working.putTags (fullTags.take 127)
    let d (n : Nat) := working.putTrack { working.track with declarations := List.replicate n ⟨1, 2⟩ }
    working.listening = true ∧ (d 1).track.declarations.length < 2 ∧ (d 2).track.declarations.length = 2
      ∧ (s.geom.working = some line3 ∧ s.tags.length < 128 ∧ (s.web.wmax : Int) < s.front + line3.exitPos)
      ∧ (line3.exitPos < be (([0, 7, 0x05, 0x5D, 0x4A, 0x81] : List Byte).drop 2)
        ∧ be (([0, 7, 0x05, 0x5D, 0x4A, 0x7F] : List Byte).drop 2) ≤ line3.exitPos
        ∧ (s.web.wmax : Int) < s.front - be (([0, 7, 0x05, 0x5D, 0x4A, 0x7F] : List Byte).drop 2) + line3.exitPos)
      ∧ (working.putTags fullTags).tags.length = 128 := by decide +kernel

/-- An option that is neither, insertions without a geometry, and a roll head on a full track. -/
theorem witness_InsertionRequestsTaken_refused :
    ready.listening = true ∧ ready.geom.working = none ∧ (2 : Byte) ≠ 0 ∧ (2 : Byte) ≠ 1
      ∧ (working.putTags fullTags).listening = true ∧ (working.putTags fullTags).geom.working ≠ none
      ∧ (working.putTags fullTags).tags.length = 128 := by decide +kernel

theorem trackInv_insertions :
    TrackInv (working.putTags (fullTags.take 127)) ∧ TrackInv (working.putTags fullTags) ∧ GeometryInv working :=
  ⟨trackInv_127, trackInv_128, geometryInv_valid⟩

theorem witness_TrackResetTakesEffect :
    working.listening = true ∧ working.gov.state = .halt ∧ (govAt working .run 0).gov.state ≠ .halt
      ∧ (Changeover.stagedFrom 0 1 jobA).state = .pending
      ∧ ({ Changeover.stagedFrom 0 1 jobA with state := .bound } : Changeover).state = .bound := by decide +kernel

/-- A line before a track reset: station 1 stuck under a job it has printed, station 2 lifted for a seam alone, between its ends, station 3
DOWN with its channel in HUNT; zone 1 out of band and zone 2 in; the watch OPEN with the speed just above the threshold. -/
def beforeReset : State :=
  let s := (working.putChannel 2 { Channel.start with state := .hunt }).putStation 0
    { working.station 0 with
      state := .stuck, lowerOutput := false, reasons := { (working.station 0).reasons with fault := true } }
  let s := s.putStation 1
    { s.station 1 with state := .up, lowerOutput := false, hold := 1, reasons := { (s.station 1).reasons with seam := true } }
  let s := s.putPoint (stationPoint 1 0) (standing false)
  let s := s.putOven { s.oven with
    operating := true, bandIn := s.oven.bandIn.set 1 true, dwell := some 900, cureLimit := some 4000, threshold := some 4080
    watch := .opened }
  s.putWeb { s.web with measuredSpeed := 4081 }

theorem witness_TrackResetTakesEffect_spans :
    let s := beforeReset
    s.listening = true ∧ s.gov.state = .halt
      ∧ (s.installed 0 = true ∧ (s.station 0).mode = .print ∧ (s.station 0).hasPrinted = true
        ∧ s.stateWithoutSeam 0 = .stuck ∧ (s.station 0).reasons.unplanned = true)
      ∧ (s.installed 1 = true ∧ (s.station 1).mode = .print ∧ (s.station 1).hasPrinted = true
        ∧ s.stateWithoutSeam 1 = .lowering ∧ (s.station 1).reasons.unplanned = false)
      ∧ ((s.station 2).mode = .print ∧ s.stateWithoutSeam 2 = .down ∧ (s.channel 2).state = .hunt)
      ∧ (s.oven.operating = true ∧ (0 : ZoneIx) ∈ s.zones ∧ s.oven.bandIn[(0 : ZoneIx)] = false
        ∧ (1 : ZoneIx) ∈ s.zones ∧ s.oven.bandIn[(1 : ZoneIx)] = true ∧ (2 : ZoneIx) ∉ s.zones)
      ∧ (s.oven.watch = .opened ∧ s.oven.threshold = some 4080 ∧ 4080 < s.web.measuredSpeed)
      ∧ (working.oven.watch ≠ .opened ∧ working.oven.operating = false)
      ∧ (Changeover.stagedFrom 0 1 jobA).noneSwitched = true
      ∧ ({ Changeover.stagedFrom 0 1 jobA with switched := (Vector.replicate 16 false).set 0 true } : Changeover).noneSwitched
          = false := by decide +kernel

theorem invariants_beforeReset : TrackInv beforeReset ∧ StationInv beforeReset := by
  unfold TrackInv StationInv Station.inv; decide +kernel

theorem witness_FetchesTakeTheOldest :
    let rep : Report := ⟨1, ⟨1, 2, 3⟩, 0, 5, .seam, [], 0⟩
    let s := working.putReports { working.reports with queue := [rep] }
    let t := working.putScan { working.scan with queue := List.replicate 17 ⟨1, true, 3, 4, false⟩ }
    working.listening = true ∧ working.reports.queue = [] ∧ (s.listening = true ∧ s.reports.queue = [rep])
      ∧ working.scan.queue = [] ∧ (t.listening = true ∧ t.scan.queue ≠ []) := by decide +kernel

theorem witness_ArmGroupTakesABaseline :
    ready.listening = true ∧ groupOf (0 : Byte).toNat = none ∧ groupOf (21 : Byte).toNat = none
      ∧ groupOf (1 : Byte).toNat = some 0 ∧ groupOf (20 : Byte).toNat = some 19 := by decide +kernel

theorem scannerInv_ready : ScannerInv ready := by unfold ScannerInv; decide +kernel
theorem witness_DisarmGroupReleases :
    ready.listening = true ∧ ScannerInv ready ∧ groupOf (0 : Byte).toNat = none ∧ groupOf (21 : Byte).toNat = none
      ∧ groupOf (20 : Byte).toNat = some 19 ∧ ready.armed 19 = false :=
  ⟨by decide +kernel, scannerInv_ready, by decide, by decide, by decide, by decide +kernel⟩

theorem witness_SubscribeAndAcknowledge :
    ready.listening = true ∧ ([0, 0, 3] : List Byte).length = 3
      ∧ (be ([0, 0, 3] : List Byte)).testBit (0 : NoticeNo).val = true ∧ (be ([0, 0, 2] : List Byte)).testBit (0 : NoticeNo).val = false
      ∧ (be ([0, 0, 2] : List Byte)).testBit (1 : NoticeNo).val = true ∧ (ready.notice 1).pending = false
      ∧ ((latch (.lockLost 1 5) ready).notice 1).pending = true := by decide +kernel

theorem witness_RestartTaken :
    let s := ready.putLink { ready.link with
      restart := .answering, sending := some (.reply ⟨0xBF, 1, [0]⟩), queue := [⟨0x3F, 1, []⟩] }
    ready.listening = true ∧ ready.gov.state = .halt ∧ (govAt ready .run 0).gov.state ≠ .halt
      ∧ (s.powered = true ∧ s.link.restart = .answering ∧ s.link.sending = some (.reply ⟨0xBF, 1, [0]⟩)) := by decide +kernel

/-! ### Witnesses: the line and the encodings -/

/-- A part whose receiver has gathered the given bytes. -/
def gathering (l : List Byte) (queued : Nat) : State :=
  ready.putLink { ready.link with receiver := some ⟨l, 0⟩, queue := List.replicate queued ⟨0x02, 0, []⟩ }

/-- A frame in progress; a length of 481; a whole frame with a bad and one with a good CRC, before an empty queue, one of 3 and a
full one. -/
theorem witness_ReceiverGathersAndJudges :
    let good := lineBytes ⟨0x02, 7, []⟩
    ready.powered = true ∧ ready.link.receiver = none ∧ judgeBytes [0, 0, 2] = .partly
      ∧ 480 < (0x01 : Byte).toNat * 256 + (0xE1 : Byte).toNat
      ∧ judgeBytes [0, 0, 2, 7, 0, 0] = .whole ⟨0x02, 7, []⟩ false ∧ (∀ b ∈ ([0, 0, 2, 7, 0, 0] : List Byte), b ≠ 0xA5)
      ∧ judgeBytes good = .whole ⟨0x02, 7, []⟩ true ∧ (gathering good 3).link.queue ≠ []
      ∧ (gathering good 3).link.queue.length < 4 ∧ (gathering good 4).link.queue.length = 4 := by decide +kernel

theorem witness_TransmitterSends :
    let owed := (latch (.lockLost 1 5) ready).putLink
      { (latch (.lockLost 1 5) ready).link with subscribed := Vector.replicate 20 true }
    let f : Frame := ⟨0x82, 7, [0]⟩
    let q : Frame := ⟨0x02, 7, []⟩
    (owed.powered = true ∧ owed.link.sending = none ∧ owed.link.restart ≠ .due ∧ owed.link.owes 1 = true
        ∧ ∀ m : NoticeNo, m.val < (1 : NoticeNo).val → owed.link.owes m = false)
      ∧ ((∀ n, ready.link.owes n = false) ∧ ready.link.sending = none)
      ∧ (({ ready.link with sending := some (.reply f), queue := [q] } : Link).sending = some (.reply f)
        ∧ ready.link.waiting = none ∧ ready.link.restart = .none) := by decide +kernel

theorem witness_CommandsAndFramesAgree :
    (Instr.getGateTable 5).wellFormed = true ∧ commandFrame (.getGateTable 5) = some ⟨0x09, 5, [0x01]⟩ := by decide +kernel

theorem witness_LineFramesArriveWhole :
    (List.replicate 480 (0 : Byte)).length ≤ 480 ∧ ready.powered = true ∧ ready.link.receiver = none := by decide +kernel

/-! ### Witnesses: the invariants -/

/-- A step that stays and meets every invariant before it: an idle step after power-on. -/
theorem witness_invariants_webInv : WebInv State.reset := by unfold WebInv; decide +kernel
theorem witness_invariants_geometryInv : GeometryInv State.reset := rfl
theorem witness_invariants_governorInv : GovernorInv State.reset := by unfold GovernorInv; decide +kernel
theorem witness_invariants_stationInv : StationInv working := by unfold StationInv Station.inv; decide +kernel
theorem witness_invariants_channelInv : ChannelInv (channelAt lockedChannel) := by
  unfold ChannelInv Channel.inv; decide +kernel
theorem witness_invariants_queueInv : QueueInv State.reset := by
  refine ⟨by decide, ?_, ?_, by decide, by decide⟩
  · intro r h; cases h
  · intro r h; cases h
theorem witness_invariants_noticeInv : NoticeInv State.reset := by unfold NoticeInv Notice.inv; decide +kernel
theorem witness_invariants_replyInv : ReplyInv State.reset := by unfold ReplyInv; decide +kernel
theorem witness_invariants_slotInv : SlotInv State.reset := by
  refine ⟨?_, ?_, ?_⟩
  · decide +kernel
  · decide +kernel
  · exact ⟨by decide +kernel, rfl⟩
theorem witness_invariants_step : step State.reset = .next State.reset := rfl

end Sys2Proof.Tests
end

section
/-! PROOFS. Screen register control (spec/04): a detection in HUNT (R67) and the end of a trim's flight (R77, R79). -/
namespace Sys2Proof.Machine

/-! ### The register channel's commands -/

theorem exec_markDetection (k : StationIx) (s : State) : exec (.markDetection k) s = act s (markSeen k) := rfl

theorem exec_trimDone (k : StationIx) (n : Byte) (s : State) :
    exec (.trimDone k n) s = act s (fun s => if s.installed k then trimDoneSeen k n.toNat s else s) := rfl

theorem exec_trimTimeout (k : StationIx) (s : State) : exec (.trimTimeout k) s = act s (trimExpired k) := rfl

/-! ### Expectations and marks -/

/-- An expectation stands in CONFIRM and LOCKED only. -/
theorem Channel.inv.wExp_none_of_hunt {c : Channel} (hinv : c.inv) (hunt : c.state = .hunt) : c.wExp = none := by
  obtain ⟨hexp, -⟩ := hinv
  have hsome : ¬ c.wExp.isSome = true := by simp [hexp, hunt]
  simpa using hsome

theorem expireMark_of_wExp_none {k : StationIx} {s : State} (h : (s.channel k).wExp = none) : expireMark k s = s := by
  have hexp : s.expired k = false := by simp [State.expired, h]
  simp [expireMark, hexp]

/-- The advance of W reaches a channel through its expectation only. -/
theorem present_channel_of_wExp_none {k : StationIx} {s : State} (raised : Bool) (h : (s.channel k).wExp = none) :
    present raised (.channel k) s = s := expireMark_of_wExp_none h

theorem judgeMark_hunt {k : StationIx} {s : State} {j : Job} (hunt : (s.channel k).state = .hunt)
    (job : s.jobFor k = some j) :
    judgeMark k s = s.putChannel k { s.channel k with state := .confirm, wExp := some ((s.web.w : Int) + j.rpt) } := by
  simp only [judgeMark, job, hunt]

/-- Settles O13: with no expectation in HUNT nothing can expire, so a taken detection is judged in the state as it stands. -/
theorem markInHuntIsTheCandidate : Obligations.MarkInHuntIsTheCandidate := by
  intro s k hinv hunt
  have hnone : (s.channel k).wExp = none := (hinv k).wExp_none_of_hunt hunt
  refine ⟨hnone, present_channel_of_wExp_none false hnone, present_channel_of_wExp_none true hnone, ?_⟩
  intro j hpow hinst hdir hdef href job
  have htaken : s.markTaken k = true := by
    simp [State.markTaken, ChannelState.measuring, hinst, hunt, hdir, hdef, href]
  have hseen : markSeen k s = judgeMark k s := by simp only [markSeen, htaken, if_true, expireMark_of_wExp_none hnone]
  rw [exec_markDetection, act_powered _ hpow, hseen, judgeMark_hunt hunt job]

/-! ### The end of a trim's flight -/

theorem trimDoneSeen_of_flight_none {k : StationIx} {s : State} (n : Nat) (h : (s.channel k).flight = none) :
    trimDoneSeen k n s = s := by simp [trimDoneSeen, h]

theorem trimDoneSeen_of_flight {k : StationIx} {s : State} {f : TrimFlight} (n : Nat) (h : (s.channel k).flight = some f) :
    trimDoneSeen k n s =
      if f.number = n then s.putChannel k { s.channel k with flight := none, trimTimer := none } else s := by
  simp [trimDoneSeen, h]

theorem trimExpired_of_flight_none {k : StationIx} {s : State} (h : (s.channel k).flight = none) : trimExpired k s = s := by
  simp [trimExpired, h]

theorem judgeAtNip_flight (k : StationIx) (s : State) (j : StationIx) :
    ((judgeAtNip k s).channel j).flight = (s.channel j).flight := by
  obtain ⟨r, hr⟩ := judgeMisregister_channel k (s.nipFabric k) s j
  rw [judgeAtNip, hr]

/-- No flight is left by the expiry, whether or not there was one. -/
theorem trimExpired_flight (k : StationIx) (s : State) : ((trimExpired k s).channel k).flight = none := by
  cases h : (s.channel k).flight with
  | none => rw [trimExpired_of_flight_none h, h]
  | some f => simp [trimExpired, h, judgeAtNip_flight]

/-- A done without a flight is ignored, whatever the station and the power. -/
theorem exec_trimDone_of_flight_none {k : StationIx} {s : State} (n : Byte) (h : (s.channel k).flight = none) :
    exec (.trimDone k n) s = .next s := by
  simp [exec_trimDone, act, trimDoneSeen_of_flight_none n.toNat h]

theorem exec_trimDone_of_flight {k : StationIx} {s : State} {f : TrimFlight} (n : Byte) (hpow : s.powered = true)
    (hinst : s.installed k = true) (h : (s.channel k).flight = some f) :
    exec (.trimDone k n) s = .next
      (if f.number = n.toNat then s.putChannel k { s.channel k with flight := none, trimTimer := none } else s) := by
  rw [exec_trimDone, act_powered _ hpow, if_pos hinst, trimDoneSeen_of_flight n.toNat h]

/-- An expiry without a flight changes nothing. -/
theorem exec_trimTimeout_of_flight_none {k : StationIx} {s : State} (h : (s.channel k).flight = none) :
    exec (.trimTimeout k) s = .next s := by
  simp [exec_trimTimeout, act, trimExpired_of_flight_none h]

/-- After a powered expiry no trim of the channel is in flight. -/
theorem exec_trimTimeout_flight {k : StationIx} {s t : State} (hpow : s.powered = true)
    (h : exec (.trimTimeout k) s = .next t) : (t.channel k).flight = none := by
  rw [exec_trimTimeout, act_powered _ hpow] at h
  obtain rfl := Host.Outcome.next.inj h
  exact trimExpired_flight k s

/-- Settles O16: done and expiry each leave the channel without a flight, and on such a channel neither does anything. -/
theorem trimDoneEndsTheFlight : Obligations.TrimDoneEndsTheFlight := by
  intro s k n hpow hinst
  refine ⟨fun f hf hn => ⟨?_, ?_⟩, fun f hf hn => ?_, exec_trimDone_of_flight_none n, fun t ht => ?_⟩
  · rw [exec_trimDone_of_flight n hpow hinst hf, if_pos hn]
  · exact exec_trimTimeout_of_flight_none (by simp)
  · rw [exec_trimDone_of_flight n hpow hinst hf, if_neg hn]
  · exact exec_trimDone_of_flight_none n (exec_trimTimeout_flight hpow ht)

end Sys2Proof.Machine
end

section
/-! PROOFS. Station control (spec/05): an entry to STUCK (R94), what the judgement of the spans after it keeps of the stations and
of the notices, and the lower timer's expiry (R96). -/
namespace Sys2Proof.Machine

/-! ### Notices: the relation `LatchesOnly` -/

/-- An operation that leaves the link alone latches nothing. -/
theorem LatchesOnly.of_changesOnly {l : List NoticeNo} {b : List Block} {s t : State} (h : ChangesOnly b s t)
    (hb : Block.link ∉ b) : LatchesOnly l s t := by
  have hlink : t.link = s.link := h.2.2 .link hb
  exact ⟨by rw [hlink], fun n _ => by rw [State.notice, State.notice, hlink]⟩

theorem LatchesOnly.refl (l : List NoticeNo) (s : State) : LatchesOnly l s s := ⟨rfl, fun _ _ => rfl⟩

theorem LatchesOnly.trans {l : List NoticeNo} {s t u : State} (h : LatchesOnly l s t) (h' : LatchesOnly l t u) :
    LatchesOnly l s u :=
  ⟨h'.1.trans h.1, fun n hn => (h'.2 n hn).trans (h.2 n hn)⟩

theorem LatchesOnly.mono {l l' : List NoticeNo} {s t : State} (h : LatchesOnly l s t) (hl : l ⊆ l') : LatchesOnly l' s t :=
  ⟨h.1, fun n hn => h.2 n (fun hm => hn (hl hm))⟩

/-- What stands latched is kept by an operation that latches other kinds only. -/
theorem Latched.of_latchesOnly {d : NoticeDetail} {l : List NoticeNo} {s t u : State} (h : Latched d s t)
    (h' : LatchesOnly l t u) (hd : d.number ∉ l) : Latched d s u := by
  rw [Latched, h'.2 _ hd]
  exact h

/-! ### Notices of the track and the exit -/

/-- The kinds that the track and the exit latch when a span is inserted or closed: TRACK_FULL, REPORT_READY and REPORT_LOST. -/
def spanKinds : List NoticeNo := [7, 9, 10]

theorem latch_latchesOnly_spanKinds {d : NoticeDetail} (hd : d.number ∈ spanKinds) (s : State) :
    LatchesOnly spanKinds s (latch d s) :=
  (latch_latchesOnly d s).mono (by simpa using hd)

theorem offerReport_latchesOnly (r : Report) (s : State) : LatchesOnly spanKinds s (offerReport r s) := by
  unfold offerReport
  split <;>
    exact (LatchesOnly.of_changesOnly (changes_putReports s _) (by decide)).trans
      (latch_latchesOnly_spanKinds (by simp [spanKinds, NoticeDetail.number]) _)

theorem closeReport_latchesOnly (u : Int) (c : ClosedBy) (s : State) : LatchesOnly spanKinds s (closeReport u c s) := by
  cases h : s.reports.current with
  | none => rw [closeReport_none u c h]; exact .refl _ s
  | some r =>
    rw [closeReport_some u c h]
    exact (LatchesOnly.of_changesOnly (changes_putReports s _) (by decide)).trans (offerReport_latchesOnly _ _)

theorem addItem_latchesOnly (k : ItemKind) (a b : Int) (s : State) : LatchesOnly spanKinds s (addItem k a b s) :=
  .of_changesOnly (changes_addItem k a b s) (by decide)

theorem exitTag_latchesOnly (t : Tag) (s : State) : LatchesOnly spanKinds s (exitTag t s) := by
  unfold exitTag
  split
  · exact closeReport_latchesOnly _ _ s
  · exact (closeReport_latchesOnly _ _ s).trans (.of_changesOnly (changes_putReports _ _) (by decide))
  · exact addItem_latchesOnly _ _ _ s
  · split
    · exact .refl _ s
    · exact addItem_latchesOnly _ _ _ s
  all_goals exact addItem_latchesOnly _ _ _ s

theorem settleExit_latchesOnly (n : Nat) (s : State) : LatchesOnly spanKinds s (settleExit n s) := by
  unfold settleExit
  split
  · exact .refl _ s
  · split
    · split
      · exact (exitTag_latchesOnly _ s).trans (.of_changesOnly (changes_putTags _ _) (by decide))
      · exact .refl _ s
    · exact .refl _ s

theorem dropInsertion_latchesOnly (k : TagKind) (u : Int) (s : State) : LatchesOnly spanKinds s (dropInsertion k u s) :=
  (LatchesOnly.of_changesOnly (changes_putTrack s _) (by decide)).trans
    (latch_latchesOnly_spanKinds (by simp [spanKinds, NoticeDetail.number]) _)

theorem insertTag_latchesOnly (k : TagKind) (u : Int) (e : Option Int) (s : State) :
    LatchesOnly spanKinds s (insertTag k u e s).1 := by
  unfold insertTag
  split
  · exact (LatchesOnly.of_changesOnly (changes_putTrack s _) (by decide)).trans (settleExit_latchesOnly _ _)
  · exact dropInsertion_latchesOnly k u s

theorem closeRef_latchesOnly (r : SpanRef) (u : Int) (s : State) : LatchesOnly spanKinds s (closeRef r u s) := by
  cases r with
  | none => exact .refl _ s
  | lost => exact .refl _ s
  | id n =>
    show LatchesOnly spanKinds s (closeSpan n u s)
    unfold closeSpan
    split
    · exact .refl _ s
    · split
      · exact (LatchesOnly.of_changesOnly (changes_putTags s _) (by decide)).trans (settleExit_latchesOnly _ _)
      · exact .refl _ s

/-! ### Notices of the span judgements -/

theorem judgeMisregister_latchesOnly (k : StationIx) (u : Int) (s : State) :
    LatchesOnly spanKinds s (judgeMisregister k u s) := by
  unfold judgeMisregister
  split
  · split
    · exact (insertTag_latchesOnly _ _ _ s).trans (.of_changesOnly (changes_putChannel _ k _) (by decide))
    · exact .refl _ s
  · split
    · exact .refl _ s
    · exact (closeRef_latchesOnly _ _ s).trans (.of_changesOnly (changes_putChannel _ k _) (by decide))

theorem judgePlanned_latchesOnly (k : StationIx) (s : State) : LatchesOnly spanKinds s (judgePlanned k s) :=
  .of_changesOnly (changes_judgePlanned k s) (by decide)

theorem judgeGap_latchesOnly (k : StationIx) (s : State) : LatchesOnly spanKinds s (judgeGap k s) := by
  unfold judgeGap
  split
  · split
    · exact ((insertTag_latchesOnly _ _ _ s).trans (.of_changesOnly (changes_putStation _ k _) (by decide))).trans
        (judgePlanned_latchesOnly k _)
    · exact .refl _ s
  · split
    · exact .refl _ s
    · exact (closeRef_latchesOnly _ _ s).trans (.of_changesOnly (changes_putStation _ k _) (by decide))

theorem settleSpans_latchesOnly (k : StationIx) (s : State) : LatchesOnly spanKinds s (settleSpans k s) :=
  (judgeGap_latchesOnly k s).trans (judgeMisregister_latchesOnly k _ _)

/-! ### The stations under the span judgements -/

/-- `t` differs from `s` in its stations by the print gap of station k at most. -/
def GapOnly (k : StationIx) (s t : State) : Prop :=
  (∃ r p, t.station k = { s.station k with gap := r, gapPlanned := p }) ∧ OtherStations k s t

theorem GapOnly.of_changesOnly {k : StationIx} {b : List Block} {s t : State} (h : ChangesOnly b s t)
    (hb : Block.stations ∉ b) : GapOnly k s t := by
  have hst : t.stations = s.stations := h.2.2 .stations hb
  have same : ∀ j, t.station j = s.station j := fun j => by rw [State.station, State.station, hst]
  exact ⟨⟨_, _, same k⟩, fun j _ => same j⟩

theorem GapOnly.refl (k : StationIx) (s : State) : GapOnly k s s := ⟨⟨_, _, rfl⟩, fun _ _ => rfl⟩

theorem GapOnly.trans {k : StationIx} {s t u : State} (h : GapOnly k s t) (h' : GapOnly k t u) : GapOnly k s u := by
  obtain ⟨⟨r, p, hk⟩, hother⟩ := h
  obtain ⟨⟨r', p', hk'⟩, hother'⟩ := h'
  exact ⟨⟨r', p', by rw [hk', hk]⟩, fun j hj => (hother' j hj).trans (hother j hj)⟩

theorem gapOnly_putStation (k : StationIx) (r : SpanRef) (p : Bool) (s : State) :
    GapOnly k s (s.putStation k { s.station k with gap := r, gapPlanned := p }) :=
  ⟨⟨r, p, State.putStation_same s k _⟩, fun j hj => State.putStation_other s k j _ hj⟩

theorem judgePlanned_gapOnly (k : StationIx) (s : State) : GapOnly k s (judgePlanned k s) := by
  unfold judgePlanned
  dsimp only
  split
  · split
    · exact .refl k s
    · exact (gapOnly_putStation k _ _ s).trans (.of_changesOnly (changes_setUnplanned _ _) (by decide))
    · exact gapOnly_putStation k _ _ s
  · exact .refl k s

theorem judgeGap_gapOnly (k : StationIx) (s : State) : GapOnly k s (judgeGap k s) := by
  unfold judgeGap
  split
  · split
    · exact ((GapOnly.of_changesOnly (changes_insertTag _ _ _ s) (by decide)).trans (gapOnly_putStation k _ _ _)).trans
        (judgePlanned_gapOnly k _)
    · exact .refl k s
  · split
    · exact .refl k s
    · exact (GapOnly.of_changesOnly (changes_closeRef _ _ s) (by decide)).trans (gapOnly_putStation k _ _ _)

theorem settleSpans_gapOnly (k : StationIx) (s : State) : GapOnly k s (settleSpans k s) :=
  (judgeGap_gapOnly k s).trans (.of_changesOnly (changes_judgeAtNip k _) (by decide))

/-! ### An entry to STUCK (R94) -/

theorem enterStuck_of_ne_stuck {k : StationIx} {s : State} (c : StuckCause) (h : (s.station k).state ≠ .stuck) :
    enterStuck k c s =
      settleSpans k (judgePlanned k (latch (.stationStuck k c) (s.putStation k ((s.station k).stuckWith c)))) := by
  simp [enterStuck, h]

/-- The entry sets the station as R94 says; the judgements after it touch its print gap only. -/
theorem enterStuck_gapOnly {k : StationIx} {s : State} (c : StuckCause) (h : (s.station k).state ≠ .stuck) :
    GapOnly k (s.putStation k ((s.station k).stuckWith c)) (enterStuck k c s) := by
  rw [enterStuck_of_ne_stuck c h]
  exact ((GapOnly.of_changesOnly (changes_latch _ _) (by decide)).trans (judgePlanned_gapOnly k _)).trans
    (settleSpans_gapOnly k _)

theorem enterStuck_station {k : StationIx} {s : State} (c : StuckCause) (h : (s.station k).state ≠ .stuck) :
    ∃ r p, (enterStuck k c s).station k = { (s.station k).stuckWith c with gap := r, gapPlanned := p } := by
  obtain ⟨hk, -⟩ := enterStuck_gapOnly c h
  simpa using hk

theorem enterStuck_otherStations {k : StationIx} {s : State} (c : StuckCause) (h : (s.station k).state ≠ .stuck) :
    OtherStations k s (enterStuck k c s) := by
  obtain ⟨-, hother⟩ := enterStuck_gapOnly c h
  exact fun j hj => (hother j hj).trans (State.putStation_other s k j _ hj)

/-- STATION_STUCK is no kind that the judgements after the entry latch. -/
theorem enterStuck_latched {k : StationIx} {s : State} (c : StuckCause) (h : (s.station k).state ≠ .stuck)
    (hready : s.link.state = .ready) : Latched (.stationStuck k c) s (enterStuck k c s) := by
  rw [enterStuck_of_ne_stuck c h]
  have hlatch : Latched (.stationStuck k c) s (latch (.stationStuck k c) (s.putStation k ((s.station k).stuckWith c))) :=
    latch_latched (s := s.putStation k ((s.station k).stuckWith c)) hready
  exact hlatch.of_latchesOnly ((judgePlanned_latchesOnly k _).trans (settleSpans_latchesOnly k _))
    (by simp [spanKinds, NoticeDetail.number])

@[simp] theorem enterStuck_gov (k : StationIx) (c : StuckCause) (s : State) : (enterStuck k c s).gov = s.gov :=
  (changes_enterStuck k c s).2.2 .gov (by decide)

/-! ### The lower timer's expiry (R96) -/

theorem exec_lowerTimeout (k : StationIx) (s : State) : exec (.lowerTimeout k) s = act s (lowerExpired k) := rfl

theorem lowerExpired_of_lowering {k : StationIx} {s : State} (hstate : (s.station k).state = .lowering)
    (htimer : (s.station k).lowerTimer.isSome = true) : lowerExpired k s = enterStuck k .lowerTimeout s := by
  simp [lowerExpired, hstate, htimer]

/-- Settles O18: the expiry is an entry to STUCK, which sends the governor no request. -/
theorem lowerTimeoutSticks : Obligations.LowerTimeoutSticks := by
  intro s k hpow hstate htimer
  have hne : (s.station k).state ≠ .stuck := by simp [hstate]
  obtain ⟨r, p, hst⟩ := enterStuck_station .lowerTimeout hne
  refine ⟨enterStuck k .lowerTimeout s, ?_, ?_⟩
  · rw [exec_lowerTimeout, act_powered _ hpow, lowerExpired_of_lowering hstate htimer]
  · rw [hst]
    exact ⟨rfl, rfl, rfl, rfl, rfl, rfl, rfl, rfl, rfl, enterStuck_latched .lowerTimeout hne,
      enterStuck_gov k .lowerTimeout s, enterStuck_otherStations .lowerTimeout hne, changes_enterStuck k .lowerTimeout s⟩

end Sys2Proof.Machine
end

section
/-! PROOFS. Oven and cure supervision (spec/07): the cure limit and the threshold of a dwell taken (R135). -/
namespace Sys2Proof.Machine

/-! ### The cure limit (R135) -/

theorem State.geo_of_working {s : State} {g : GeomRecord} (h : s.geom.working = some g) (f : GeomRecord → Nat) :
    s.geo f = f g := by simp only [State.geo, h]

theorem State.ovenLength_of_working {s : State} {g : GeomRecord} (h : s.geom.working = some g) :
    s.ovenLength = g.ovenOut - g.ovenIn := State.geo_of_working h _

/-- A dwell taken while supervision operates sets the limit and the threshold with it, and no other field of the oven. -/
theorem takeDwell_of_dwellInForce {s : State} {d : Nat} (hop : s.oven.operating = true) (hd : s.dwellInForce = some d) :
    takeDwell s = s.putOven { s.oven with
      dwell := some d, cureLimit := some (cureLimitOf s.ovenLength d),
      threshold := some (thresholdOf (cureLimitOf s.ovenLength d)) } := by
  simp only [takeDwell, hop, hd, if_true]

/-- Settles O21: the oven length read through the working geometry makes the limit R135's quotient. -/
theorem cureLimitComputed : Obligations.CureLimitComputed := by
  intro s g d hop hgeom hd v
  have hlimit : cureLimitOf s.ovenLength d = v := by rw [State.ovenLength_of_working hgeom, cureLimitOf]
  rw [takeDwell_of_dwellInForce hop hd, hlimit, thresholdOf]

end Sys2Proof.Machine
end

section
/-! PROOFS. The line speed governor (spec/08): what an update does to the demand (R150), and a fall of BATCHER_READY beside a
Halt (R153, R154). -/
namespace Sys2Proof.Machine

/-! ### The step of a rate (R150) -/

theorem one_le_stepOf (rate : Nat) : 1 ≤ stepOf rate := Nat.le_max_left _ _

theorem stepOf_le_twenty {rate : Nat} (h : rate ≤ 2000) : stepOf rate ≤ 20 := by
  unfold stepOf
  omega

/-- R3's largest rate, for the two rates of an update outside a trip. -/
theorem GeomRecord.rates_le_of_rangesHold {g : GeomRecord} (h : g.rangesHold = true) :
    g.acceleration ≤ 2000 ∧ g.deceleration ≤ 2000 := by
  simp only [GeomRecord.rangesHold, Bool.and_eq_true, decide_eq_true_eq] at h
  omega

/-! ### One step of the demand (R150) -/

theorem moveDemand_of_lt {demand limit : Nat} (rising falling : Nat) (h : demand < limit) :
    moveDemand demand limit rising falling = demand + min rising (limit - demand) := if_pos h

theorem moveDemand_of_le {demand limit : Nat} (rising falling : Nat) (h : limit ≤ demand) :
    moveDemand demand limit rising falling = demand - min falling (demand - limit) := if_neg (Nat.not_lt.mpr h)

theorem moveDemand_of_eq {demand limit : Nat} (rising falling : Nat) (h : demand = limit) :
    moveDemand demand limit rising falling = demand := by
  rw [moveDemand_of_le rising falling (Nat.le_of_eq h.symm)]
  omega

/-- The rise is never more than the difference. -/
theorem moveDemand_le_limit_of_rise {demand limit rising falling : Nat}
    (h : demand < moveDemand demand limit rising falling) : moveDemand demand limit rising falling ≤ limit := by
  rcases Nat.lt_or_ge demand limit with hlt | hle
  · rw [moveDemand_of_lt rising falling hlt]
    omega
  · rw [moveDemand_of_le rising falling hle] at h
    omega

/-! ### The three parts of an update (R149): the limit, the step, the rest -/

@[simp] theorem Governor.withLimit_state (g : Governor) (now : LimitTerms) (jogSpeed : Nat) :
    (g.withLimit now jogSpeed).state = g.state := by
  unfold Governor.withLimit
  split <;> rfl

@[simp] theorem Governor.withLimit_demand (g : Governor) (now : LimitTerms) (jogSpeed : Nat) :
    (g.withLimit now jogSpeed).demand = g.demand := by
  unfold Governor.withLimit
  split <;> rfl

@[simp] theorem Governor.stepped_state (g : Governor) (rising falling trip : Nat) :
    (g.stepped rising falling trip).state = g.state := by
  unfold Governor.stepped
  split <;> rfl

@[simp] theorem Governor.stepped_limit (g : Governor) (rising falling trip : Nat) :
    (g.stepped rising falling trip).limit = g.limit := by
  unfold Governor.stepped
  split <;> rfl

@[simp] theorem Governor.atRest_demand (g : Governor) : g.atRest.demand = g.demand := by
  unfold Governor.atRest
  repeat' split
  all_goals rfl

@[simp] theorem Governor.atRest_limit (g : Governor) : g.atRest.limit = g.limit := by
  unfold Governor.atRest
  repeat' split
  all_goals rfl

theorem Governor.atRest_of_demand_ne_zero {g : Governor} (h : g.demand ≠ 0) : g.atRest = g := if_neg h

/-- The states in which R150 moves the demand. -/
theorem Governor.stepped_demand_of_moving {g : Governor} (rising falling trip : Nat)
    (h : g.state = .run ∨ g.state = .halting ∨ g.state = .jog) :
    (g.stepped rising falling trip).demand = moveDemand g.demand g.limit rising falling := by
  rcases h with h | h | h <;> simp only [Governor.stepped, h]

/-- In the other states the step raises nothing: TRIPPING falls by the trip step, HALT and TRIPPED stand. -/
theorem Governor.stepped_demand_le_of_not_moving {g : Governor} (rising falling trip : Nat)
    (h : ¬ (g.state = .run ∨ g.state = .halting ∨ g.state = .jog)) :
    (g.stepped rising falling trip).demand ≤ g.demand := by
  obtain ⟨hrun, hhalting, hjog⟩ : g.state ≠ .run ∧ g.state ≠ .halting ∧ g.state ≠ .jog := by simpa using h
  cases hstate : g.state with
  | run => exact absurd hstate hrun
  | halting => exact absurd hstate hhalting
  | jog => exact absurd hstate hjog
  | tripping => simp only [Governor.stepped, hstate, Nat.sub_le]
  | halt | tripped => simp only [Governor.stepped, hstate, Nat.le_refl]

theorem Governor.stepped_of_stopped {g : Governor} (rising falling trip : Nat)
    (h : g.state = .halt ∨ g.state = .tripped) : g.stepped rising falling trip = g := by
  rcases h with h | h <;> simp only [Governor.stepped, h]

/-! ### The whole update -/

section
variable (g : Governor) (now : LimitTerms) (jogSpeed rising falling trip : Nat)

@[simp] theorem Governor.updated_limit :
    (g.updated now jogSpeed rising falling trip).limit = (g.withLimit now jogSpeed).limit := by
  simp [Governor.updated]

theorem Governor.updated_demand :
    (g.updated now jogSpeed rising falling trip).demand
      = ((g.withLimit now jogSpeed).stepped rising falling trip).demand := Governor.atRest_demand _

/-- R150's step is taken against the limit that the same update has set. -/
theorem Governor.updated_demand_of_moving (h : g.state = .run ∨ g.state = .halting ∨ g.state = .jog) :
    (g.updated now jogSpeed rising falling trip).demand
      = moveDemand g.demand (g.updated now jogSpeed rising falling trip).limit rising falling := by
  rw [g.updated_demand, Governor.stepped_demand_of_moving rising falling trip (by simpa using h), g.updated_limit,
    g.withLimit_demand]

/-- Only R150's step can raise the demand, and it stops at the limit. -/
theorem Governor.updated_demand_le_limit_of_rise (h : g.demand < (g.updated now jogSpeed rising falling trip).demand) :
    (g.updated now jogSpeed rising falling trip).demand ≤ (g.updated now jogSpeed rising falling trip).limit := by
  by_cases hmoving : g.state = .run ∨ g.state = .halting ∨ g.state = .jog
  · rw [g.updated_demand_of_moving now jogSpeed rising falling trip hmoving] at h ⊢
    exact moveDemand_le_limit_of_rise h
  · have hle : ((g.withLimit now jogSpeed).stepped rising falling trip).demand ≤ (g.withLimit now jogSpeed).demand :=
      Governor.stepped_demand_le_of_not_moving rising falling trip (by simpa using hmoving)
    rw [g.updated_demand] at h
    rw [g.withLimit_demand] at hle
    omega

/-- An update enters HALT or TRIPPED at demand 0 only; where the governor already stood in one of them, the update keeps its
demand. -/
theorem Governor.updated_demand_eq_zero_of_stopped (hinv : g.state = .halt ∨ g.state = .tripped → g.demand = 0)
    (h : (g.updated now jogSpeed rising falling trip).state = .halt
      ∨ (g.updated now jogSpeed rising falling trip).state = .tripped) :
    (g.updated now jogSpeed rising falling trip).demand = 0 := by
  rw [g.updated_demand]
  by_cases hzero : ((g.withLimit now jogSpeed).stepped rising falling trip).demand = 0
  · exact hzero
  · rw [Governor.updated, Governor.atRest_of_demand_ne_zero hzero, Governor.stepped_state, Governor.withLimit_state] at h
    rw [Governor.stepped_of_stopped rising falling trip (by simpa only [Governor.withLimit_state] using h),
      Governor.withLimit_demand]
    exact hinv h

end

theorem exec_governorUpdate (s : State) : exec .governorUpdate s = act s governorUpdated := rfl

theorem governorUpdated_demand_of_moving {s : State}
    (h : s.gov.state = .run ∨ s.gov.state = .halting ∨ s.gov.state = .jog) :
    (governorUpdated s).gov.demand = moveDemand s.gov.demand (governorUpdated s).gov.limit
      (stepOf (s.geo (·.acceleration))) (stepOf (s.geo (·.deceleration))) :=
  s.gov.updated_demand_of_moving _ _ _ _ _ h

/-- Settles O22: the update's step against its own limit, and the demand at 0 wherever the update stops the governor. -/
theorem updateMovesTheDemand : Obligations.UpdateMovesTheDemand := by
  intro s hpow hinv
  obtain ⟨hstopped, -⟩ := hinv
  refine ⟨governorUpdated s, by rw [exec_governorUpdate, act_powered _ hpow], ⟨fun hmoving => ?_, ?_, ?_, ?_⟩,
    changes_putGov s _⟩
  · have hdemand := governorUpdated_demand_of_moving hmoving
    exact ⟨fun hlt => hdemand.trans (moveDemand_of_lt _ _ hlt),
      fun hgt => hdemand.trans (moveDemand_of_le _ _ (Nat.le_of_lt hgt)),
      fun heq => hdemand.trans (moveDemand_of_eq _ _ heq)⟩
  · exact s.gov.updated_demand_le_limit_of_rise _ _ _ _ _
  · exact s.gov.updated_demand_eq_zero_of_stopped _ _ _ _ _ hstopped
  · intro g hgeom hranges
    obtain ⟨hacc, hdec⟩ := g.rates_le_of_rangesHold hranges
    rw [State.geo_of_working hgeom, State.geo_of_working hgeom]
    exact ⟨one_le_stepOf _, stepOf_le_twenty hacc, one_le_stepOf _, stepOf_le_twenty hdec⟩

/-! ### Halting and BATCHER_READY (R153, R154) -/

theorem Governor.batcherFell_of_run {g : Governor} (h : g.state = .run) :
    g.batcherFell = { g with target := 0, state := if g.demand = 0 then .halt else .halting } := by
  simp only [Governor.batcherFell, Governor.enterHalting, h]

theorem Governor.batcherFell_of_ne_run {g : Governor} (h : g.state ≠ .run) : g.batcherFell = g := by
  cases hstate : g.state with
  | run => exact absurd hstate h
  | halt | halting | jog | tripping | tripped => simp only [Governor.batcherFell, hstate]

theorem Governor.enterHalting_state (g : Governor) :
    g.enterHalting.state = .halt ∨ g.enterHalting.state = .halting := by
  simpa [Governor.enterHalting] using Decidable.em _

theorem Governor.halted_of_run {g : Governor} (h : g.state = .run) : g.halted = g.enterHalting := by
  simp only [Governor.halted, h]

theorem Governor.halted_of_halting {g : Governor} (h : g.state = .halt ∨ g.state = .halting) : g.halted = g := by
  rcases h with h | h <;> simp only [Governor.halted, h]

/-- A Halt leaves RUN, and no state leads to RUN by it. -/
theorem Governor.halted_state_ne_run (g : Governor) : g.halted.state ≠ .run := by
  cases hstate : g.state with
  | run => rcases g.enterHalting_state with h | h <;> simp [Governor.halted_of_run hstate, h]
  | jog =>
    simp only [Governor.halted, Governor.windDown, hstate]
    split <;> decide
  | halt | halting | tripping | tripped => simp [Governor.halted, hstate]

/-- In RUN the second of the two finds the halting governor of the first; elsewhere the fall does nothing on either side. -/
theorem Governor.batcherFell_halted_state (g : Governor) : g.batcherFell.halted.state = g.halted.batcherFell.state := by
  rw [Governor.batcherFell_of_ne_run g.halted_state_ne_run]
  by_cases hrun : g.state = .run
  · have hstate : g.batcherFell.state = g.enterHalting.state := by rw [Governor.batcherFell_of_run hrun]; rfl
    have hfell : g.batcherFell.halted = g.batcherFell :=
      Governor.halted_of_halting (by simpa only [hstate] using g.enterHalting_state)
    rw [hfell, hstate, Governor.halted_of_run hrun]
  · rw [Governor.batcherFell_of_ne_run hrun]

/-- The point number alone says who consumes a change of BATCHER_READY. -/
theorem deliverPoint_batcherPoint (v : Bool) (s : State) : deliverPoint batcherPoint v s = batcherChanged v s := rfl

theorem batcherChanged_false (s : State) : batcherChanged false s = s.putGov s.gov.batcherFell := rfl

theorem batcherChanged_true (s : State) : batcherChanged true s = s := rfl

theorem haltRule_state (s : State) : (haltRule s).1 = s.putGov s.gov.halted := rfl

/-- Settles O24: the fall by the governor's state, and its order beside a Halt. -/
theorem batcherFallHalts : Obligations.BatcherFallHalts := by
  intro s
  simp only [deliverPoint_batcherPoint, batcherChanged_false, batcherChanged_true, haltRule_state, State.putGov_gov]
  refine ⟨fun hrun => ?_, fun hne => ?_, trivial, s.gov.batcherFell_halted_state⟩
  · rw [Governor.batcherFell_of_run hrun]
  · rw [Governor.batcherFell_of_ne_run hne]
    rfl

end Sys2Proof.Machine
end

section
/-! PROOFS. The line link (spec/10): a request taken at once, judged by its own rule and answered (R182 to R184). -/
namespace Sys2Proof.Machine

/-! ### The transmitter's choice (R184) -/

/-- The transmitter begins an owed notice or the waiting reply, or stays as it is. -/
theorem transmit_cases (s : State) :
    (∃ n, transmit s = beginNotice n s) ∨ (∃ f, s.link.waiting = some f ∧ transmit s = beginReply f s)
      ∨ transmit s = s := by
  unfold transmit
  split
  · split
    next n _ => exact .inl ⟨n, rfl⟩
    next f _ hwait => exact .inr (.inl ⟨f, hwait, rfl⟩)
    next => exact .inr (.inr rfl)
  · exact .inr (.inr rfl)

/-- The transmitter's choice touches no field of the link that taking a request leaves alone. -/
theorem LinkServed.transmit {s t : State} (h : LinkServed s t) : LinkServed s (transmit t) := by
  rcases transmit_cases t with ⟨n, e⟩ | ⟨_, -, e⟩ | e <;> rw [e] <;> exact h

/-- The beginning of a notice sets its sent flag and leaves the rest of the pending set. -/
theorem beginNotice_noticesKept (n : NoticeNo) (s : State) : NoticesKept s (beginNotice n s) := by
  intro m
  show ((s.putNotice n { s.notice n with sent := true }).notice m).butSent = (s.notice m).butSent
  by_cases h : m = n
  · subst h
    rw [State.putNotice_same]
    rfl
  · rw [State.putNotice_other s n m _ h]

theorem transmit_noticesKept (s : State) : NoticesKept s (transmit s) := by
  rcases transmit_cases s with ⟨n, e⟩ | ⟨_, -, e⟩ | e <;> rw [e]
  · exact beginNotice_noticesKept n s
  · exact fun _ => rfl
  · exact fun _ => rfl

/-- A waiting frame goes on waiting behind an owed notice, or is begun. -/
theorem transmit_waiting_or_sending {s : State} {r : Frame} (h : s.link.waiting = some r) :
    (transmit s).link.waiting = some r ∨ (transmit s).link.sending = some (.reply r) := by
  rcases transmit_cases s with ⟨n, e⟩ | ⟨f, hwait, e⟩ | e <;> rw [e]
  · exact .inl h
  · obtain rfl : f = r := Option.some.inj (hwait.symm.trans h)
    exact .inr rfl
  · exact .inl h

/-! ### A request judged (R182) -/

@[simp] theorem requestOf_byte (r : RequestKind) : requestOf r.byte = some r := by cases r <;> rfl

/-- A READY link judges a request of the right length by its own rule alone. -/
theorem judgeRequest_requestFrame {s : State} {r : RequestKind} {body : List Byte} (tag : Byte)
    (hready : s.link.state = .ready) (hlen : body.length = r.bodyLength) :
    judgeRequest (requestFrame r tag body) s = ownRule r body s := by
  simp [judgeRequest, hready, judgeKind, requestFrame, hlen]

/-! ### A request taken at once (R182, R183) -/

theorem changes_taking (s : State) (f : Frame) : ChangesOnly [.link] s (s.taking f) := changes_putLink s _

/-- A rule that leaves the link alone and answers `body` makes the request served. -/
theorem offerReply_served {blocks : List Block} {s t : State} {f : Frame} (body : List Byte)
    (hrule : ChangesOnly blocks (s.taking f) t) (hblocks : Block.link ∉ blocks) :
    Served blocks s (offerReply f body t) f body := by
  have ⟨_, _, hagree⟩ := hrule
  have hlink : t.link = (s.taking f).link := hagree .link hblocks
  refine ⟨?_, LinkServed.transmit ?_, fun n => ?_, ?_, transmit_waiting_or_sending rfl⟩
  · have hall : ChangesOnly (.link :: blocks) s t := ((changes_taking s f).mono (by simp)).trans (hrule.mono (by simp))
    exact hall.trans ((changes_offerReply f body t).mono (by simp))
  · simp only [LinkServed, State.putLink_link, hlink]
    exact ⟨rfl, rfl, rfl, rfl, rfl, rfl, rfl, rfl, rfl, rfl, rfl, rfl⟩
  · refine (transmit_noticesKept _ n).trans ?_
    simp only [State.notice, State.putLink_link, hlink]
    rfl
  · simp only [offerReply, transmit_queue, State.putLink_link, hlink]
    rfl

/-- A part that listens answers a request of the right length by its own rule, when that rule answers now. -/
theorem receiveFrame_ownRule {s t : State} {r : RequestKind} {body answer : List Byte} (tag : Byte)
    (hlisten : s.listening = true) (hlen : body.length = r.bodyLength)
    (hrule : ownRule r body (s.taking (requestFrame r tag body)) = (t, some answer)) :
    receiveFrame (requestFrame r tag body) s = offerReply (requestFrame r tag body) answer t := by
  obtain ⟨-, hready, -, -⟩ := s.listening_iff.mp hlisten
  rw [receiveFrame_listening _ hlisten]
  exact takeRequest_answered
    ((judgeRequest_requestFrame (s := s.taking (requestFrame r tag body)) tag hready hlen).trans hrule)

end Sys2Proof.Machine
end

section
/-! PROOFS. The point scanner (spec/09): what the service of a request leaves of it, the baseline of a group, and Disarm Group
(R173). -/
namespace Sys2Proof.Machine

/-! ### The scanner while a request is served -/

/-- The scanner is out of the link's reach. -/
@[simp] theorem offerReply_scan (f : Frame) (body : List Byte) (s : State) : (offerReply f body s).scan = s.scan := by
  obtain ⟨-, -, hagree⟩ := changes_offerReply f body s
  exact hagree .scan (by decide)

@[simp] theorem offerReply_point (f : Frame) (body : List Byte) (s : State) (p : PointNo) :
    (offerReply f body s).point p = s.point p := by simp only [State.point, offerReply_scan]

@[simp] theorem offerReply_armed (f : Frame) (body : List Byte) (s : State) (g : GroupIx) :
    (offerReply f body s).armed g = s.armed g := by simp only [State.armed, offerReply_scan]

@[simp] theorem taking_scan (s : State) (f : Frame) : (s.taking f).scan = s.scan := rfl
@[simp] theorem taking_point (s : State) (f : Frame) (p : PointNo) : (s.taking f).point p = s.point p := rfl
@[simp] theorem taking_armed (s : State) (f : Frame) (g : GroupIx) : (s.taking f).armed g = s.armed g := rfl

/-! ### Arming and disarming (R172, R173) -/

/-- A point at its baseline, as R172 and R173 leave it. -/
def Point.settled (x : Point) : Point := { x with stored := x.debounced, unreported := false }

theorem Point.settled_of_reported {x : Point} (hstored : x.stored = x.debounced) (hflag : x.unreported = false) :
    x.settled = x := by
  cases x
  simp_all only [Point.settled]

@[simp] theorem setArmed_queue (g : GroupIx) (b : Bool) (s : State) : (setArmed g b s).scan.queue = s.scan.queue := by
  rw [setArmed, State.putScan_scan]

theorem changes_setArmed (g : GroupIx) (b : Bool) (s : State) : ChangesOnly [.scan] s (setArmed g b s) := changes_putScan s _

@[simp] theorem setArmed_armed_same (g : GroupIx) (b : Bool) (s : State) : (setArmed g b s).armed g = b := by
  simp [setArmed, State.armed]

theorem setArmed_armed_other {g h : GroupIx} (b : Bool) (s : State) (hne : h ≠ g) :
    (setArmed g b s).armed h = s.armed h := by
  have hval : (g : Nat) ≠ h := fun e => hne (Fin.ext e.symm)
  simp [setArmed, State.armed, Vector.getElem_set_ne, hval]

theorem setArmed_point (g : GroupIx) (b : Bool) (s : State) (p : PointNo) :
    (setArmed g b s).point p = if groupOfPoint p = g then (s.point p).settled else s.point p := by
  simp [setArmed, State.point, baseline, Point.settled]

/-- The points of an unarmed group stand at their baseline already. -/
theorem ScannerInv.settled_of_unarmed {s : State} {p : PointNo} (hinv : ScannerInv s)
    (h : s.armed (groupOfPoint p) = false) : (s.point p).settled = s.point p := by
  obtain ⟨hstored, hflag⟩ := hinv p
  exact Point.settled_of_reported (hstored (hflag h)) (hflag h)

theorem setArmed_point_of_unarmed {g : GroupIx} {s : State} (b : Bool) (p : PointNo) (hinv : ScannerInv s)
    (h : s.armed g = false) : (setArmed g b s).point p = s.point p := by
  rw [setArmed_point]
  split
  next hp => exact hinv.settled_of_unarmed (hp ▸ h)
  next => rfl

/-! ### Disarm Group (R173) -/

theorem field_singleton (b : Byte) : field [b] 0 1 = b.toNat := by simp [field, fieldBytes, be]

theorem disarmGroupRule_of_none {b : Byte} (s : State) (h : groupOf b.toNat = none) :
    disarmGroupRule [b] s = (s, refuse .outOfRange) := by simp only [disarmGroupRule, field_singleton, h]

theorem disarmGroupRule_of_some {b : Byte} {g : GroupIx} (s : State) (h : groupOf b.toNat = some g) :
    disarmGroupRule [b] s = (setArmed g false s, refuse .ok) := by simp only [disarmGroupRule, field_singleton, h]

/-- A listening part runs a Disarm Group of one byte by R173 and offers its reply. -/
theorem exec_disarmGroup_listening {s t : State} {tag b : Byte} {answer : List Byte} (hlisten : s.listening = true)
    (hrule : disarmGroupRule [b] (s.taking (requestFrame .disarmGroup tag [b])) = (t, answer)) :
    exec (.disarmGroup tag [b]) s = .next (offerReply (requestFrame .disarmGroup tag [b]) answer t) := by
  obtain ⟨hpow, -⟩ := s.listening_iff.mp hlisten
  have hown : ownRule .disarmGroup [b] (s.taking (requestFrame .disarmGroup tag [b])) = (t, some answer) :=
    congrArg answered hrule
  calc exec (.disarmGroup tag [b]) s
      = act s (receiveFrame (requestFrame .disarmGroup tag [b])) := rfl
    _ = .next (offerReply (requestFrame .disarmGroup tag [b]) answer t) := by
      rw [act_powered _ hpow, receiveFrame_ownRule tag hlisten rfl hown]

/-- Settles O45: a refusal changes nothing beside the link; otherwise the group is disarmed at its baseline, at which the points
of an unarmed group stand already. -/
theorem disarmGroupReleases : Obligations.DisarmGroupReleases := by
  intro s tag b hlisten hinv f
  refine ⟨fun hnone => ⟨_, exec_disarmGroup_listening hlisten (disarmGroupRule_of_none _ hnone), ?_⟩,
    fun g hsome => ⟨_, exec_disarmGroup_listening hlisten (disarmGroupRule_of_some _ hsome), ?_⟩⟩
  · exact offerReply_served _ (.refl _ _) (by simp)
  · refine ⟨offerReply_served _ (changes_setArmed g false _) (by simp), by simp, fun h hne => ?_, ?_,
      fun p hp => ?_, fun p hp => ?_, fun hunarmed p => ?_⟩
    · rw [offerReply_armed, setArmed_armed_other false _ hne, taking_armed]
    · rw [offerReply_scan, setArmed_queue, taking_scan]
    · rw [offerReply_point, setArmed_point, if_pos hp, taking_point]
      rfl
    · rw [offerReply_point, setArmed_point, if_neg hp, taking_point]
    · rw [offerReply_point, setArmed_point_of_unarmed (s := s.taking f) false p hinv hunarmed, taking_point]

end Sys2Proof.Machine
end
